-- ==== Sys2Proof/Word.lean ====
section
/-! DEFINITION. The machine's words: the 8-bit bus byte and the 16-bit address, register pair or immediate. -/

namespace Sys2Proof

/-- One bus access moves exactly one of these (20_memory.md R60). -/
abbrev Byte := BitVec 8

/-- A 16-bit value: an address, `PC`, `SP`, a register pair, `nn` (00_scope.md R5). -/
abbrev Word := BitVec 16

end Sys2Proof
end

