-- ==== Sys2Proof/Machine/Bits.lean ====
section
/-! DEFINITION. Bit-field, sign-extension and byte-order helpers (00_scope.md R10, 20_memory.md R80). -/

namespace Sys2Proof

/-- `v[15:8]`. -/
def hi8 (v : Word) : Byte := v.extractLsb' 8 8

/-- `v[7:0]`. -/
def lo8 (v : Word) : Byte := v.extractLsb' 0 8

/-- `{hi, lo}` (00_scope.md R10). -/
def pair (hi lo : Byte) : Word := hi ++ lo

/-- `sext_16(v)` (00_scope.md R10). -/
def sext16 (v : Byte) : Word := v.signExtend 16

/-- `zext_16(v)` (00_scope.md R10). -/
def zext16 (v : Byte) : Word := v.setWidth 16

/-- `v[i]`. -/
def bitAt (v : Byte) (i : Nat) : Bool := v.getLsbD i

/-- `0xFF00 + n`: the high page (30_encoding.md R129). -/
def highPage (n : Byte) : Word := 0xFF00#16 + zext16 n

/-- `{0b00000000, 0b00, ttt, 0b000}`: the `RST` target (30_encoding.md R129). -/
def rstTarget (t : BitVec 3) : Word := 0#10 ++ t ++ 0#3

end Sys2Proof
end

