-- ==== Sys2Proof/Config.lean ====
section
/-! DEFINITION. What is fixed before reset (00_scope.md R6, 92_eei_decisions.md "Open parameters"), held as plain data
inside State so that every claim over all states is a claim over all configurations, and the free values: the
answers of the external ports (00_scope.md R9), which nothing in Lean can evaluate. -/

namespace Sys2Proof

/-- A byte store: addresses strictly rising, no entry equal to the unlisted byte. -/
abbrev Memory := List Host.Cell

/-- What an unlisted index of a byte store reads as. DESIGN CHOICE (log 2, unsafe): R50 leaves the RAM contents at
reset to the parameter `ResetMem`; the model's default parameter is all zero. -/
def unlistedByte : Byte := 0x00#8

/-- The four cartridge controllers (20_memory.md R90). -/
inductive CartKind where
  | noMbc
  | mbc1
  | mbc3
  | mbc5
  deriving DecidableEq, Repr

/-- A display colour (60_exceptions.md R389). DESIGN CHOICE (log 9): four byte-wide channels; the source says only "an
RGBA color". -/
structure Rgba where
  red   : Byte
  green : Byte
  blue  : Byte
  alpha : Byte
  deriving DecidableEq, Repr

/-- The parameter `ShadeToRGBA` as its four values (60_exceptions.md R389). -/
structure ShadeTable where
  shade0 : Rgba
  shade1 : Rgba
  shade2 : Rgba
  shade3 : Rgba
  deriving DecidableEq, Repr

/-- The configuration: `Rom`, `CartKind`, `CartRamSize`, `CartRamInit`, `BootRom`, `ShadeToRGBA`, `HistoryDepth`
(00_scope.md R6; 70_reset_and_hazards.md R400: "fixed before reset and is not changed by it"). -/
structure Cfg where
  kind         : CartKind
  /-- The number of `0x4000`-byte ROM banks (20_memory.md R91). -/
  nbanks       : Nat
  rom          : Memory
  cartRamSize  : Nat
  cartRamInit  : Memory
  bootRom      : Memory
  shades       : ShadeTable
  historyDepth : Nat
  deriving DecidableEq, Repr

/-- Free value: the byte of draw number `n` when the outside supplied none in advance (00_scope.md R9, log 4). -/
opaque Config.freeByte : Nat → Byte

/-- Free value: the bit `SerialPort.tick()` returns at draw number `n` (60_exceptions.md R312, log 4). -/
opaque Config.freeBit : Nat → Bool

end Sys2Proof
end

