-- ==== Sys2Proof/Machine/State.lean ====
section
/-! DEFINITION. The state of the block, every element 10_state.md names, as plain data; why a step can stop; and the
state after reset. -/

namespace Sys2Proof.Machine

/-- The CPU register file (10_state.md R20). `f` holds `Z N H C` in bits 7 to 4; its low nibble is hard-wired zero
(R22), which the writers of `f` in Operands.lean see to. -/
structure Regs where
  a  : Byte
  f  : Byte
  b  : Byte
  c  : Byte
  d  : Byte
  e  : Byte
  h  : Byte
  l  : Byte
  sp : Word
  pc : Word
  deriving DecidableEq, Repr

/-- The interrupt state (10_state.md R28 to R32). -/
structure Irq where
  ime        : Bool
  imePending : Bool
  halted     : Bool
  /-- `IF`. -/
  ifl        : Byte
  /-- `IE`. -/
  ie         : Byte
  deriving DecidableEq, Repr

/-- The timer (10_state.md R33). `tac` is its three stored bits. -/
structure Timer where
  divider : BitVec 16
  tima    : Byte
  tma     : Byte
  tac     : BitVec 3
  deriving DecidableEq, Repr

/-- The OAM-DMA unit (10_state.md R34). -/
structure Dma where
  active : Bool
  src    : Byte
  offset : Byte
  deriving DecidableEq, Repr

/-- The PPU mode (10_state.md R37, R39). -/
inductive PpuMode where
  | hblank
  | vblank
  | oamScan
  | drawing
  deriving DecidableEq, Repr

/-- A palette selector (10_state.md R39). -/
inductive Palette where
  | bg
  | obj0
  | obj1
  deriving DecidableEq, Repr

/-- A `PixelFifoEntry` (10_state.md R39). -/
structure PixelFifoEntry where
  ci         : BitVec 2
  pal        : Palette
  fromSprite : Bool
  deriving DecidableEq, Repr

/-- One entry of the per-line sprite list: the four OAM bytes and the OAM index (10_state.md R39, R40). -/
structure Sprite where
  y     : Byte
  x     : Byte
  tile  : Byte
  attr  : Byte
  index : Nat
  deriving DecidableEq, Repr

/-- The background fetcher's states (10_state.md R39 `bg_step` 0 to 4). -/
inductive BgStep where
  | index
  | dataLow
  | dataHigh
  | idle
  | push
  deriving DecidableEq, Repr

/-- The sprite fetcher's steps (10_state.md R39 `sp_step` 0 to 3). -/
inductive SpStep where
  | tile
  | dataLow
  | dataHigh
  | merge
  deriving DecidableEq, Repr

/-- The PPU registers (10_state.md R36 to R38) and its hidden state (R39). `statEn` is `STAT[6:3]`;
`winLine` can reach 144 (log 23). -/
structure Ppu where
  lcdc        : Byte
  statEn      : BitVec 4
  scy         : Byte
  scx         : Byte
  ly          : Byte
  lyc         : Byte
  bgp         : Byte
  obp0        : Byte
  obp1        : Byte
  wy          : Byte
  wx          : Byte
  mode        : PpuMode
  dot         : Nat
  lx          : Nat
  sprites     : List Sprite
  bgStep      : BgStep
  bgWait      : Bool
  fetchX      : Nat
  tileNo      : Byte
  tileLo      : Byte
  tileHi      : Byte
  fifo        : List PixelFifoEntry
  discard     : Nat
  inWindow    : Bool
  winLine     : Nat
  winUsed     : Bool
  scxL        : Byte
  spActive    : Bool
  spStep      : SpStep
  spWait      : Bool
  spCur       : Nat
  spTile      : Byte
  spRow       : BitVec 3
  spLo        : Byte
  spHi        : Byte
  spDone      : List Nat
  spBackup    : List (Option PixelFifoEntry)
  coincidence : Bool
  skipFrame   : Bool
  deriving DecidableEq, Repr

/-- The five real-time-clock shadow registers `rtc_shadow[0..4]` (20_memory.md R100). -/
structure RtcShadow where
  seconds : Byte
  minutes : Byte
  hours   : Byte
  dayLow  : Byte
  dayHigh : Byte
  deriving DecidableEq, Repr

/-- Cartridge state (10_state.md R41; 20_memory.md R94, R100, R107). The bank registers have the widest variant's
width; each variant's writes store only its own bits (log 16). -/
structure Cart where
  ramEnable  : Bool
  romBank    : BitVec 9
  ramBank    : BitVec 4
  bankMode   : Bool
  latchArmed : Bool
  rtc        : RtcShadow
  ram        : Memory
  deriving DecidableEq, Repr

/-- The answers the outside has given in advance, oldest first, and the number of draws made so far. Where a list is
empty the draw is a free value of Config at that number (00_scope.md R9; the model's own field, log 4). -/
structure Env where
  bytes : List Byte
  bits  : List Bool
  count : Nat
  deriving DecidableEq, Repr

/-- One call of an external port by the block (00_scope.md R9). -/
inductive PortEvent where
  /-- a bus read forwarded to the joypad, serial or audio port -/
  | portRead (a : Word)
  /-- a bus write forwarded to the joypad, serial or audio port -/
  | portWrite (a : Word) (v : Byte)
  /-- `AudioPort.tick()`, once per T-cycle (60_exceptions.md R312) -/
  | audioTick
  /-- `SerialPort.tick()`, once per T-cycle (60_exceptions.md R312) -/
  | serialTick
  /-- `RtcSource.now()` (20_memory.md R106) -/
  | rtcNow
  /-- `RtcSource.write(n, v)` (20_memory.md R100) -/
  | rtcWrite (n : Nat) (v : Byte)
  /-- the persistence port's `dirty` event (20_memory.md R110) -/
  | dirty
  /-- `Emit(rgba)` on the display sink (60_exceptions.md R389) -/
  | emit (colour : Rgba)
  deriving DecidableEq, Repr

/-- The kind of a fatal fault with its detail, the opcode byte or the bus address (60_exceptions.md R320 to R323). -/
inductive FaultKind where
  | illegalOpcode (op : Byte)
  | busFault (addr : Word)
  | stopUnmodelled (op : Byte)
  deriving DecidableEq, Repr

/-- The fault record `(kind, pc, detail)` (60_exceptions.md R320). -/
structure FaultRecord where
  kind : FaultKind
  pc   : Word
  deriving DecidableEq, Repr

/-- One pair `(pc0, op)` of the diagnostic history (60_exceptions.md R320). -/
structure HistoryEntry where
  pc0 : Word
  op  : Byte
  deriving DecidableEq, Repr

/-- The whole machine. -/
structure State where
  regs        : Regs
  irq         : Irq
  timer       : Timer
  dma         : Dma
  bootEnabled : Bool
  ppu         : Ppu
  vram        : Memory
  wram        : Memory
  oam         : Memory
  hram        : Memory
  cart        : Cart
  cfg         : Cfg
  clock       : Nat
  /-- `pc0`, the address of the first byte of the instruction of the step in progress (60_exceptions.md R310; log 6). -/
  pc0         : Word
  /-- `faulted` and the fault record (10_state.md R42): `none` is `faulted = 0` (log 5). -/
  fault       : Option FaultRecord
  /-- The last `HistoryDepth` pairs, newest first (60_exceptions.md R320; log 15). -/
  history     : List HistoryEntry
  env         : Env
  /-- The calls of external ports made so far, newest first (the model's own record of the outputs, log 10). -/
  outbox      : List PortEvent
  deriving DecidableEq, Repr

/-- Why the machine stops. -/
inductive Fault where
  /-- Raised by `step` alone, on a state that is already faulted: "`Step` is not defined when `faulted = 1`"
  (60_exceptions.md R320; log 5). Safe: the spec defines no further step. -/
  | stepWhileFaulted (record : FaultRecord)
  deriving DecidableEq, Repr

/-- Why an instruction has no meaning. -/
inductive Refusal where
  /-- Raised by an arm of `exec` whose instruction has no meaning yet; no arm of this model does. Safe. -/
  | notModelled (mnemonic : String)
  deriving DecidableEq, Repr

/-- The parameter `ResetRegs`: the CPU registers R50 leaves unspecified (10_state.md R50). `flags` is `F[7:4]`. -/
structure ResetRegs where
  a     : Byte
  flags : BitVec 4
  b     : Byte
  c     : Byte
  d     : Byte
  e     : Byte
  h     : Byte
  l     : Byte
  sp    : Word
  deriving DecidableEq, Repr

/-- The parameter `ResetMem`: the four RAMs and the clock shadow at reset (10_state.md R50). -/
structure ResetMem where
  vram : Memory
  wram : Memory
  oam  : Memory
  hram : Memory
  rtc  : RtcShadow
  deriving DecidableEq, Repr

/-- The five shadow bytes all zero: the model's default for `ResetMem` (log 2). -/
def RtcShadow.zero : RtcShadow := ⟨0, 0, 0, 0, 0⟩

/-- `sp_backup` with its eight slots empty (10_state.md R39). -/
def emptyBackup : List (Option PixelFifoEntry) := [none, none, none, none, none, none, none, none]

/-- The PPU after reset (10_state.md R50): registers zero, mode HBlank, "all other PPU hidden state: empty lists, zero
counters". -/
def Ppu.reset : Ppu where
  lcdc := 0
  statEn := 0
  scy := 0
  scx := 0
  ly := 0
  lyc := 0
  bgp := 0
  obp0 := 0
  obp1 := 0
  wy := 0
  wx := 0
  mode := .hblank
  dot := 0
  lx := 0
  sprites := []
  bgStep := .index
  bgWait := false
  fetchX := 0
  tileNo := 0
  tileLo := 0
  tileHi := 0
  fifo := []
  discard := 0
  inWindow := false
  winLine := 0
  winUsed := false
  scxL := 0
  spActive := false
  spStep := .tile
  spWait := false
  spCur := 0
  spTile := 0
  spRow := 0
  spLo := 0
  spHi := 0
  spDone := []
  spBackup := emptyBackup
  coincidence := false
  skipFrame := false

/-- The state after reset for given parameters: the table of 10_state.md R50, line by line. -/
def State.resetWith (cfg : Cfg) (rr : ResetRegs) (rm : ResetMem) (env : Env) : State where
  regs := { a := rr.a, f := rr.flags ++ 0#4, b := rr.b, c := rr.c, d := rr.d, e := rr.e, h := rr.h, l := rr.l,
            sp := rr.sp, pc := 0x0000 }
  irq := { ime := false, imePending := false, halted := false, ifl := 0x00, ie := 0x00 }
  timer := { divider := 0x0000, tima := 0x00, tma := 0x00, tac := 0 }
  dma := { active := false, src := 0x00, offset := 0x00 }
  bootEnabled := true
  ppu := Ppu.reset
  vram := rm.vram
  wram := rm.wram
  oam := rm.oam
  hram := rm.hram
  cart := { ramEnable := false, romBank := 1, ramBank := 0, bankMode := false, latchArmed := false, rtc := rm.rtc,
            ram := cfg.cartRamInit }
  cfg := cfg
  clock := 0
  pc0 := 0x0000
  fault := none
  history := []
  env := env
  outbox := []

/-- The default configuration: no bank controller, two ROM banks, nothing in any ROM, no cartridge RAM (log 3). -/
def defaultCfg : Cfg where
  kind := .noMbc
  nbanks := 2
  rom := []
  cartRamSize := 0
  cartRamInit := []
  bootRom := []
  shades := ⟨⟨0, 0, 0, 0⟩, ⟨0, 0, 0, 0⟩, ⟨0, 0, 0, 0⟩, ⟨0, 0, 0, 0⟩⟩
  historyDepth := 0

/-- The default `ResetRegs`: every register R50 leaves unspecified is zero (DESIGN CHOICE, log 1, unsafe). -/
def defaultResetRegs : ResetRegs := ⟨0, 0, 0, 0, 0, 0, 0, 0, 0⟩

/-- The default `ResetMem`: nothing listed (DESIGN CHOICE, log 2, unsafe). -/
def defaultResetMem : ResetMem := ⟨[], [], [], [], RtcShadow.zero⟩

/-- The machine right after reset, with the default parameters. -/
def State.reset : State := State.resetWith defaultCfg defaultResetRegs defaultResetMem ⟨[], [], 0⟩

end Sys2Proof.Machine
end

