-- ==== Sys2Proof/Machine/Ports.lean ====
section
/-! DEFINITION. The external ports (00_scope.md R9): recording a call, and drawing an answer. -/

namespace Sys2Proof.Machine

/-- Record one call of an external port. -/
def logEvent (e : PortEvent) (s : State) : State := { s with outbox := e :: s.outbox }

/-- One drawn byte: the oldest answer given in advance, or else a free value (00_scope.md R9, log 4). -/
def drawByte (s : State) : Byte × State :=
  match s.env.bytes with
  | v :: rest => (v, { s with env := { s.env with bytes := rest, count := s.env.count + 1 } })
  | [] => (Config.freeByte s.env.count, { s with env := { s.env with count := s.env.count + 1 } })

/-- One drawn bit (60_exceptions.md R312: "the returned bit is a draw"). -/
def drawBit (s : State) : Bool × State :=
  match s.env.bits with
  | v :: rest => (v, { s with env := { s.env with bits := rest, count := s.env.count + 1 } })
  | [] => (Config.freeBit s.env.count, { s with env := { s.env with count := s.env.count + 1 } })

/-- A bus read forwarded to the joypad, serial or audio port (20_memory.md R70). -/
def portRead (a : Word) (s : State) : Byte × State := drawByte (logEvent (.portRead a) s)

/-- A bus write forwarded "verbatim" to the joypad, serial or audio port (20_memory.md R70). -/
def portWrite (a : Word) (v : Byte) (s : State) : State := logEvent (.portWrite a v) s

/-- `RtcSource.now()`: five drawn bytes, seconds first (20_memory.md R106; log 17). -/
def rtcNow (s : State) : RtcShadow × State :=
  let (v0, s) := drawByte (logEvent .rtcNow s)
  let (v1, s) := drawByte s
  let (v2, s) := drawByte s
  let (v3, s) := drawByte s
  let (v4, s) := drawByte s
  (⟨v0, v1, v2, v3, v4⟩, s)

end Sys2Proof.Machine
end

