-- ==== Sys2Proof/Machine/Cartridge.lean ====
section
/-! DEFINITION. The cartridge controllers (20_memory.md R90 to R110). Addresses are bus addresses as numbers,
`0x0000–0x7FFF` and `0xA000–0xBFFF` only. -/

namespace Sys2Proof.Machine

/-- Why a cartridge is refused at load time (20_memory.md R91, 60_exceptions.md R324). -/
inductive LoadError where
  | unsupportedMapper
  | malformedRom
  deriving DecidableEq, Repr

/-- "A pre-parsed mapper-type selector" (20_memory.md R91): one of the four kinds, or some other number. -/
inductive MapperSelector where
  | kind (k : CartKind)
  | other (n : Nat)
  deriving DecidableEq, Repr

/-- "`nbanks` a power of two and `nbanks >= 2`" (20_memory.md R91). -/
def nbanksOk (nbanks : Nat) : Bool := decide (2 ≤ nbanks) && (nbanks &&& (nbanks - 1)) == 0

/-- `Rom` has length `0x4000 * nbanks` for a legal `nbanks` (20_memory.md R91). -/
def romLengthOk (romLength : Nat) : Bool := romLength % 0x4000 == 0 && nbanksOk (romLength / 0x4000)

/-- `CartRamSize` is "a multiple of `0x2000` or zero" (20_memory.md R91). -/
def ramSizeOk (ramSize : Nat) : Bool := ramSize % 0x2000 == 0

/-- The load-time contract (20_memory.md R91, 70_reset_and_hazards.md R402): the configuration, or the error after
which "no machine state exists". DESIGN CHOICE (log 21): with both errors at once the spec gives no order, and
`unsupportedMapper` is reported. -/
def loadCartridge (sel : MapperSelector) (romLength : Nat) (base : Cfg) : Except LoadError Cfg :=
  match sel with
  | .other _ => .error .unsupportedMapper
  | .kind k =>
    if romLengthOk romLength then .ok { base with kind := k, nbanks := romLength / 0x4000 }
    else .error .malformedRom

/-- The index in `Rom` of offset `off` of bank `bank`, reduced `mod nbanks` (20_memory.md R91). -/
def romIndexOf (cfg : Cfg) (bank off : Nat) : Nat := (bank % cfg.nbanks) * 0x4000 + off

/-- The index in `Rom` that a bus read of `n < 0x8000` returns (20_memory.md R92, R95, R101, R108). -/
def romIndex (cfg : Cfg) (c : Cart) (n : Nat) : Nat :=
  match cfg.kind with
  | .noMbc => n
  | .mbc1 =>
    if n < 0x4000 then romIndexOf cfg (if c.bankMode then c.ramBank.toNat <<< 5 else 0) n
    else romIndexOf cfg ((c.ramBank.toNat <<< 5) ||| c.romBank.toNat) (n - 0x4000)
  | .mbc3 => if n < 0x4000 then n else romIndexOf cfg c.romBank.toNat (n - 0x4000)
  | .mbc5 => if n < 0x4000 then n else romIndexOf cfg c.romBank.toNat (n - 0x4000)

/-- The RAM bank an access of `0xA000–0xBFFF` uses (20_memory.md R94, R100, R107). -/
def ramBankOf (cfg : Cfg) (c : Cart) : Nat :=
  match cfg.kind with
  | .noMbc => 0
  | .mbc1 => if c.bankMode then c.ramBank.toNat else 0
  | .mbc3 => c.ramBank.toNat
  | .mbc5 => c.ramBank.toNat

/-- The index in `CartRam` of bus address `n` in `0xA000–0xBFFF`, reduced `mod CartRamSize` (20_memory.md R91). -/
def ramIndex (cfg : Cfg) (c : Cart) (n : Nat) : Nat :=
  (ramBankOf cfg c * 0x2000 + (n - 0xA000)) % cfg.cartRamSize

/-- `rtc_shadow[i]` (20_memory.md R100). -/
def RtcShadow.get (r : RtcShadow) : Nat → Byte
  | 0 => r.seconds
  | 1 => r.minutes
  | 2 => r.hours
  | 3 => r.dayLow
  | _ => r.dayHigh

/-- `rtc_shadow[i] <- v` (20_memory.md R100). -/
def RtcShadow.set (r : RtcShadow) (v : Byte) : Nat → RtcShadow
  | 0 => { r with seconds := v }
  | 1 => { r with minutes := v }
  | 2 => { r with hours := v }
  | 3 => { r with dayLow := v }
  | _ => { r with dayHigh := v }

/-- What the cartridge RAM window reaches, the controller's state being `c` (20_memory.md R92, R93, R95, R101, R108). -/
inductive RamWindow where
  /-- disabled or absent: reads `0xFF`, writes are dropped -/
  | closed
  /-- the byte of `CartRam` at this index -/
  | ram (i : Nat)
  /-- this clock register of `MBC3` -/
  | clock (i : Nat)
  deriving DecidableEq, Repr

/-- The RAM window at bus address `n` in `0xA000–0xBFFF`. DESIGN CHOICE (log 20): on `MBC3` with `CartRamSize = 0`, RAM
enabled and a clock register selected, R93's words (reads `0xFF`, writes dropped) and the pseudocode of R100 and R101
(the clock register) disagree; the window is the clock register. -/
def ramWindow (cfg : Cfg) (c : Cart) (n : Nat) : RamWindow :=
  match cfg.kind with
  | .noMbc => .closed
  | .mbc1 => if c.ramEnable && cfg.cartRamSize != 0 then .ram (ramIndex cfg c n) else .closed
  | .mbc5 => if c.ramEnable && cfg.cartRamSize != 0 then .ram (ramIndex cfg c n) else .closed
  | .mbc3 =>
    if !c.ramEnable then .closed
    else if c.ramBank.toNat ≤ 0x3 then (if cfg.cartRamSize != 0 then .ram (ramIndex cfg c n) else .closed)
    else if 0x8 ≤ c.ramBank.toNat && c.ramBank.toNat ≤ 0xC then .clock (c.ramBank.toNat - 8)
    else .closed

/-- `CartRead(addr)` (20_memory.md R92, R95, R101, R108). -/
def cartRead (n : Nat) (s : State) : Byte :=
  if n < 0x8000 then Memory.read s.cfg.rom (romIndex s.cfg s.cart n)
  else
    match ramWindow s.cfg s.cart n with
    | .closed => 0xFF#8
    | .ram i => Memory.read s.cart.ram i
    | .clock i => s.cart.rtc.get i

/-- `ram_enable <- ((v & 0x0F) = 0x0A)` (20_memory.md R93). -/
def enablesRam (v : Byte) : Bool := (v &&& 0x0F#8) == 0x0A#8

/-- "If rom_bank = 0 then rom_bank <- 1" (20_memory.md R94, R100). -/
def remapZeroBank (v : Byte) : BitVec 9 := if v = 0 then 1 else v.setWidth 9

/-- A write of the controller's registers, `n < 0x8000` (20_memory.md R92, R94, R100, R107); the `MBC3` latch is
apart. -/
def bankWrite (kind : CartKind) (n : Nat) (v : Byte) (c : Cart) : Cart :=
  match kind with
  | .noMbc => c
  | .mbc1 =>
    if n < 0x2000 then { c with ramEnable := enablesRam v }
    else if n < 0x4000 then { c with romBank := remapZeroBank (v &&& 0x1F#8) }
    else if n < 0x6000 then { c with ramBank := (v &&& 0x03#8).setWidth 4 }
    else { c with bankMode := bitAt v 0 }
  | .mbc3 =>
    if n < 0x2000 then { c with ramEnable := enablesRam v }
    else if n < 0x4000 then { c with romBank := remapZeroBank (v &&& 0x7F#8) }
    else if n < 0x6000 then { c with ramBank := v.setWidth 4 }
    else c
  | .mbc5 =>
    if n < 0x2000 then { c with ramEnable := enablesRam v }
    else if n < 0x3000 then { c with romBank := c.romBank.extractLsb' 8 1 ++ v }
    else if n < 0x4000 then { c with romBank := v.extractLsb' 0 1 ++ c.romBank.extractLsb' 0 8 }
    else if n < 0x6000 then { c with ramBank := v.setWidth 4 }
    else c

/-- The two-step clock latch of `MBC3` (20_memory.md R106). -/
def latchWrite (v : Byte) (s : State) : State :=
  if v = 0x00#8 then { s with cart.latchArmed := true }
  else if v = 0x01#8 && s.cart.latchArmed then
    let (now, s) := rtcNow s
    { s with cart.rtc := now, cart.latchArmed := false }
  else { s with cart.latchArmed := false }

/-- A store into `CartRam`; one that changes it emits `dirty` (20_memory.md R110, log 13). -/
def cartRamStore (i : Nat) (v : Byte) (s : State) : State :=
  if Memory.read s.cart.ram i = v then s
  else logEvent .dirty { s with cart.ram := Memory.write s.cart.ram i v }

/-- `CartWrite(addr, v)` (20_memory.md R92, R94, R100, R106, R107, R109). -/
def cartWrite (n : Nat) (v : Byte) (s : State) : State :=
  if n < 0x8000 then
    if s.cfg.kind = .mbc3 ∧ 0x6000 ≤ n then latchWrite v s
    else { s with cart := bankWrite s.cfg.kind n v s.cart }
  else
    match ramWindow s.cfg s.cart n with
    | .closed => s
    | .ram i => cartRamStore i v s
    | .clock i => logEvent (.rtcWrite i v) { s with cart.rtc := s.cart.rtc.set v i }

end Sys2Proof.Machine
end

