-- ==== Sys2Proof/Machine/Ppu.lean ====
section
/-! DEFINITION. The PPU: one dot of the mode machine and of the three pixel pipelines (60_exceptions.md R370 to R391).
The PPU reads `VRAM` and `OAM` directly; what it does to the rest of the machine is what `PpuOut` carries. -/

namespace Sys2Proof.Machine

/-- What one dot leaves: the PPU, the `IF` bits it sets, and the shade it emits, if any. -/
structure PpuOut where
  ppu   : Ppu
  raise : Byte
  pixel : Option (BitVec 2)
  deriving DecidableEq, Repr

/-- `STAT[1:0]` (60_exceptions.md R370). -/
def PpuMode.bits : PpuMode → BitVec 2
  | .hblank => 0
  | .vblank => 1
  | .oamScan => 2
  | .drawing => 3

/-- `LCDC[i]` (10_state.md R36). -/
def Ppu.lcdcBit (p : Ppu) (i : Nat) : Bool := bitAt p.lcdc i

/-- `LCDC[7]`. -/
def Ppu.lcdOn (p : Ppu) : Bool := p.lcdcBit 7

/-- What a read of `STAT` returns (10_state.md R37). -/
def Ppu.statByte (p : Ppu) : Byte := 1#1 ++ p.statEn ++ BitVec.ofBool p.coincidence ++ p.mode.bits

/-- Set `IF` bits `m` when `c` holds. -/
def PpuOut.raiseIf (o : PpuOut) (c : Bool) (m : Byte) : PpuOut := if c then { o with raise := o.raise ||| m } else o

/-- The sprite height by `LCDC[2]` (10_state.md R36). -/
def Ppu.spriteHeight (p : Ppu) : Nat := if p.lcdcBit 2 then 16 else 8

/-- The effect of a write to `LCDC` (60_exceptions.md R371). -/
def Ppu.writeLcdc (v : Byte) (p : Ppu) : Ppu :=
  let q := { p with lcdc := v }
  if p.lcdOn && !q.lcdOn then
    { q with mode := .hblank, ly := 0, dot := 0, lx := 0, fifo := [], sprites := [], spActive := false,
             spBackup := emptyBackup, inWindow := false, winUsed := false, winLine := 0, coincidence := false }
  else if !p.lcdOn && q.lcdOn then
    { q with ly := 0, dot := 0, mode := .hblank, winLine := 0, skipFrame := true }
  else q

/-- `EnterOamScan` (60_exceptions.md R374). -/
def PpuOut.enterOamScan (o : PpuOut) : PpuOut :=
  { o with ppu := { o.ppu with mode := .oamScan, sprites := [] } }.raiseIf (o.ppu.statEn.getLsbD 2) 0x02#8

/-- `OamScanStep` at even dot `d` evaluates entry `d / 2` (60_exceptions.md R375). -/
def Ppu.oamScanStep (oam : Memory) (p : Ppu) : Ppu :=
  let k := p.dot / 2
  let y := Memory.read oam (4 * k)
  let line := p.ly.toNat + 16
  if p.sprites.length < 10 ∧ y.toNat ≤ line ∧ line < y.toNat + p.spriteHeight then
    { p with sprites := p.sprites ++
        [{ y := y, x := Memory.read oam (4 * k + 1), tile := Memory.read oam (4 * k + 2),
           attr := Memory.read oam (4 * k + 3), index := k }] }
  else p

/-- `EnterDrawing` (60_exceptions.md R376). -/
def Ppu.enterDrawing (p : Ppu) : Ppu :=
  { p with mode := .drawing, lx := 0, fifo := [], bgStep := .index, bgWait := false, fetchX := 0,
           scxL := p.scx, discard := p.scx.toNat % 8,
           inWindow := false, winUsed := false, spActive := false, spDone := [], spBackup := emptyBackup }

/-- The first eight slots of the FIFO, each kept when a sprite claimed it (60_exceptions.md R378). -/
def backupOf (fifo : List PixelFifoEntry) : List (Option PixelFifoEntry) :=
  [0, 1, 2, 3, 4, 5, 6, 7].map (fun i =>
    match fifo[i]? with
    | some e => if e.fromSprite then some e else none
    | none => none)

/-- `WindowCheck` (60_exceptions.md R378). -/
def Ppu.windowCheck (p : Ppu) : Ppu :=
  if p.inWindow = false ∧ p.lcdcBit 5 = true ∧ p.wy.toNat ≤ p.ly.toNat ∧ p.wx.toNat ≤ p.lx + 7 then
    { p with inWindow := true, winUsed := true, spBackup := backupOf p.fifo, fifo := [], bgStep := .index,
             bgWait := false, fetchX := 0, discard := if p.wx.toNat < 7 then 7 - p.wx.toNat else 0 }
  else p

/-- `MapAddr()`, an offset into `VRAM` (60_exceptions.md R380). -/
def Ppu.mapAddr (p : Ppu) : Nat :=
  if p.inWindow then
    (if p.lcdcBit 6 then 0x1C00 else 0x1800) + 32 * (p.winLine / 8) + p.fetchX
  else
    (if p.lcdcBit 3 then 0x1C00 else 0x1800) + 32 * ((p.ly.toNat + p.scy.toNat) % 256 / 8)
      + (p.scxL.toNat / 8 + p.fetchX) % 32

/-- `DataAddr()`, an offset into `VRAM`; `tile_no` is signed when `LCDC[4] = 0` (60_exceptions.md R380). -/
def Ppu.dataAddr (p : Ppu) : Nat :=
  let line := if p.inWindow then p.winLine % 8 else (p.ly.toNat + p.scy.toNat) % 8
  if p.lcdcBit 4 then p.tileNo.toNat * 16 + 2 * line
  else (0x1000 + p.tileNo.toInt * 16 + 2 * (line : Int)).toNat

/-- The two-bit colour index of tile bit `i` (60_exceptions.md R381). -/
def colourIndex (tileHi tileLo : Byte) (i : Nat) : BitVec 2 :=
  BitVec.ofBool (bitAt tileHi i) ++ BitVec.ofBool (bitAt tileLo i)

/-- The eight background entries of one push, leftmost pixel first (60_exceptions.md R381). -/
def Ppu.tileRow (p : Ppu) : List PixelFifoEntry :=
  [7, 6, 5, 4, 3, 2, 1, 0].map (fun i =>
    { ci := if p.lcdcBit 0 then colourIndex p.tileHi p.tileLo i else 0, pal := .bg, fromSprite := false })

/-- Put the saved sprite pixels back at the same distance from the head (60_exceptions.md R381). -/
def splice : List (Option PixelFifoEntry) → List PixelFifoEntry → List PixelFifoEntry
  | [], fifo => fifo
  | _, [] => []
  | saved :: rest, e :: fifo => saved.getD e :: splice rest fifo

/-- `Push8` (60_exceptions.md R381). -/
def Ppu.push8 (p : Ppu) : Ppu :=
  if p.inWindow ∧ p.fifo = [] then
    { p with fifo := splice p.spBackup p.tileRow, spBackup := emptyBackup }
  else { p with fifo := p.fifo ++ p.tileRow }

/-- The second dot of a two-dot state of the background fetcher (60_exceptions.md R379). -/
def Ppu.bgAct (vram : Memory) (p : Ppu) : Ppu :=
  match p.bgStep with
  | .index => { p with tileNo := Memory.read vram p.mapAddr, bgStep := .dataLow }
  | .dataLow => { p with tileLo := Memory.read vram p.dataAddr, bgStep := .dataHigh }
  | .dataHigh => { p with tileHi := Memory.read vram (p.dataAddr + 1), bgStep := .idle }
  | .idle => { p with bgStep := .push }
  | .push => p

/-- `BgFetchDot` (60_exceptions.md R379). -/
def Ppu.bgFetchDot (vram : Memory) (p : Ppu) : Ppu :=
  if p.bgStep = .push then
    (if p.fifo.length ≤ 8 then
      let q := p.push8
      { q with fetchX := (q.fetchX + 1) % 32, bgStep := .index }
     else p)
  else if p.bgWait then Ppu.bgAct vram { p with bgWait := false }
  else { p with bgWait := true }

/-- The position with the smallest `x`, the smallest position among equals, of the sprites from position `j` on that
are not done and cover output column `lx`; `best` is the best so far (60_exceptions.md R382). -/
def bestSprite (lx : Nat) (done : List Nat) : List Sprite → Nat → Option (Nat × Nat) → Option (Nat × Nat)
  | [], _, best => best
  | sp :: rest, j, best =>
    let covers := !done.contains j && decide (sp.x.toNat ≤ lx + 8) && decide (lx < sp.x.toNat)
    let best := if covers then
        (match best with
         | none => some (sp.x.toNat, j)
         | some (x, k) => if sp.x.toNat < x then some (sp.x.toNat, j) else some (x, k))
      else best
    bestSprite lx done rest (j + 1) best

/-- `SpriteTrigger`: the PPU with the sprite fetcher started, when it starts (60_exceptions.md R382). -/
def Ppu.spriteTrigger (p : Ppu) : Option Ppu :=
  if p.lcdcBit 1 = false ∨ 0 < p.discard ∨ p.fifo.length < 8 then none
  else
    match bestSprite p.lx p.spDone p.sprites 0 none with
    | none => none
    | some (_, j) => some { p with spCur := j, spActive := true, spStep := .tile, spWait := false }

/-- The pixel `i` of the sprite merged into the FIFO (60_exceptions.md R384). -/
def Ppu.mergePixel (p : Ppu) (sp : Sprite) (fifo : List PixelFifoEntry) (i : Nat) : List PixelFifoEntry :=
  let bit := if bitAt sp.attr 5 then i else 7 - i
  let ci := colourIndex p.spHi p.spLo bit
  if sp.x.toNat + i < p.lx + 8 then fifo
  else
    let k := sp.x.toNat + i - 8 - p.lx
    match fifo[k]? with
    | none => fifo
    | some e =>
      if e.fromSprite = false ∧ ci ≠ 0 ∧ ¬(bitAt sp.attr 7 = true ∧ e.ci ≠ 0) then
        fifo.set k { ci := ci, pal := if bitAt sp.attr 4 then .obj1 else .obj0, fromSprite := true }
      else fifo

/-- `SpriteMerge` (60_exceptions.md R384). -/
def Ppu.spriteMerge (p : Ppu) (sp : Sprite) : Ppu :=
  { p with fifo := [0, 1, 2, 3, 4, 5, 6, 7].foldl (p.mergePixel sp) p.fifo }

/-- The sprite being fetched (60_exceptions.md R383). A position outside the list occurs in no run; it reads as an
all-zero entry. -/
def Ppu.curSprite (p : Ppu) : Sprite := (p.sprites[p.spCur]?).getD ⟨0, 0, 0, 0, 0⟩

/-- Step 0 of the sprite fetcher: the row after the vertical flip, and the sub-tile (60_exceptions.md R383, log 11).
DESIGN CHOICE (log 22): where the flipped row is negative, the height changed from 16 to 8 after the scan, it is the
integer's remainder modulo 8. -/
def Ppu.spriteTile (p : Ppu) (sp : Sprite) : Ppu :=
  let h : Int := p.spriteHeight
  let row : Int := (p.ly.toNat : Int) + 16 - sp.y.toNat
  let row := if bitAt sp.attr 6 then h - 1 - row else row
  let t := if p.lcdcBit 2 then (sp.tile &&& 0xFE#8) ||| BitVec.ofInt 8 (row / 8) else sp.tile
  { p with spTile := t, spRow := BitVec.ofInt 3 row }

/-- `SpriteFetchDot`: steps 0 to 2 act on their second dot, step 3 takes one dot (60_exceptions.md R383). -/
def Ppu.spriteFetchDot (vram : Memory) (p : Ppu) : Ppu :=
  let sp := p.curSprite
  match p.spStep with
  | .tile => if p.spWait then { p.spriteTile sp with spWait := false, spStep := .dataLow } else { p with spWait := true }
  | .dataLow =>
    if p.spWait then
      { p with spLo := Memory.read vram (p.spTile.toNat * 16 + 2 * p.spRow.toNat), spWait := false, spStep := .dataHigh }
    else { p with spWait := true }
  | .dataHigh =>
    if p.spWait then
      { p with spHi := Memory.read vram (p.spTile.toNat * 16 + 2 * p.spRow.toNat + 1), spWait := false, spStep := .merge }
    else { p with spWait := true }
  | .merge =>
    let q := p.spriteMerge sp
    { q with spDone := q.spCur :: q.spDone, spActive := false }

/-- `EnterHBlank` (60_exceptions.md R386). DESIGN CHOICE (log 23): the increment is R386's, unbounded, so `win_line`
reaches 144 after a frame whose 144 lines all used the window, where 10_state.md R39 gives its range as 0 to 143. -/
def PpuOut.enterHBlank (o : PpuOut) : PpuOut :=
  { o with ppu := { o.ppu with mode := .hblank, winLine := if o.ppu.winUsed then o.ppu.winLine + 1 else o.ppu.winLine } }.raiseIf
    (o.ppu.statEn.getLsbD 0) 0x02#8

/-- The shade of an entry: bits `2*ci+1 : 2*ci` of its palette register (60_exceptions.md R385). -/
def Ppu.shadeOf (p : Ppu) (e : PixelFifoEntry) : BitVec 2 :=
  let pal := match e.pal with
    | .bg => p.bgp
    | .obj0 => p.obp0
    | .obj1 => p.obp1
  pal.extractLsb' (2 * e.ci.toNat) 2

/-- `CompositorDot` (60_exceptions.md R385, R390). -/
def PpuOut.compositorDot (o : PpuOut) : PpuOut :=
  if 8 < o.ppu.fifo.length then
    match o.ppu.fifo with
    | [] => o
    | e :: rest =>
      if 0 < o.ppu.discard then { o with ppu := { o.ppu with fifo := rest, discard := o.ppu.discard - 1 } }
      else
        let shade := if o.ppu.skipFrame then 0 else o.ppu.shadeOf e
        let q : PpuOut := { o with ppu := { o.ppu with fifo := rest, lx := o.ppu.lx + 1 }, pixel := some shade }
        if q.ppu.lx = 160 then q.enterHBlank else q
  else o

/-- `DrawingDot` (60_exceptions.md R377). -/
def PpuOut.drawingDot (vram : Memory) (o : PpuOut) : PpuOut :=
  if o.ppu.spActive then { o with ppu := o.ppu.spriteFetchDot vram }
  else
    let p := o.ppu.windowCheck
    match p.spriteTrigger with
    | some q => { o with ppu := q.spriteFetchDot vram }
    | none => { o with ppu := p.bgFetchDot vram }.compositorDot

/-- `EnterVBlank` (60_exceptions.md R387). -/
def PpuOut.enterVBlank (o : PpuOut) : PpuOut :=
  ({ o with ppu := { o.ppu with mode := .vblank }, raise := o.raise ||| 0x01#8 }).raiseIf (o.ppu.statEn.getLsbD 1) 0x02#8

/-- `AdvanceDot` (60_exceptions.md R373). -/
def Ppu.advanceDot (p : Ppu) : Ppu :=
  if p.dot + 1 = 456 then
    if p.ly.toNat + 1 = 154 then { p with dot := 0, ly := 0, winLine := 0, skipFrame := false }
    else { p with dot := 0, ly := p.ly + 1 }
  else { p with dot := p.dot + 1 }

/-- `CoincidenceCheck` (60_exceptions.md R388). -/
def PpuOut.coincidenceCheck (o : PpuOut) : PpuOut :=
  let c := o.ppu.ly == o.ppu.lyc
  { o with ppu := { o.ppu with coincidence := c } }.raiseIf
    (c && !o.ppu.coincidence && o.ppu.statEn.getLsbD 3) 0x02#8

/-- The work of one dot on a visible line, `LY <= 143` (60_exceptions.md R372). -/
def PpuOut.visibleDot (vram oam : Memory) (o : PpuOut) : PpuOut :=
  let o := if o.ppu.dot = 0 then o.enterOamScan else o
  let o := if o.ppu.dot ≤ 79 ∧ o.ppu.dot % 2 = 0 then { o with ppu := o.ppu.oamScanStep oam } else o
  let o := if o.ppu.dot = 80 then { o with ppu := o.ppu.enterDrawing } else o
  if o.ppu.mode = .drawing then o.drawingDot vram else o

/-- The work of one dot before the counters advance (60_exceptions.md R372). -/
def PpuOut.dotWork (vram oam : Memory) (o : PpuOut) : PpuOut :=
  if o.ppu.ly.toNat ≤ 143 then o.visibleDot vram oam
  else if o.ppu.ly.toNat = 144 ∧ o.ppu.dot = 0 then o.enterVBlank
  else o

/-- `PpuTick` (60_exceptions.md R372). -/
def Ppu.tick (vram oam : Memory) (p : Ppu) : PpuOut :=
  if p.lcdOn then
    let o := PpuOut.dotWork vram oam ⟨p, 0, none⟩
    { o with ppu := o.ppu.advanceDot }.coincidenceCheck
  else ⟨p, 0, none⟩

end Sys2Proof.Machine
end

