-- ==== Sys2Proof/Machine/Ops.lean ====
section
/-! DEFINITION. The named operations over the machine: the result of an operation that may raise, the bus
(20_memory.md), the fetch and stack primitives (00_scope.md R12 to R14), the per-T-cycle sub-step
(60_exceptions.md R312), a fatal fault (R320), taking an interrupt (R332) and returning from one (45_control.md R297). -/

namespace Sys2Proof.Machine

/-- The outcome of an operation: it completed with a value, or a `raise` ended the step in the faulted state
(00_scope.md R16, 60_exceptions.md R320: what was done before the raise "[is] not undone"). -/
inductive Res (α : Type) where
  | ok (a : α) (s : State)
  | raised (s : State)

/-- Go on after an operation unless it raised. -/
def Res.bind {α β : Type} (r : Res α) (k : α → State → Res β) : Res β :=
  match r with
  | .ok a s => k a s
  | .raised s => .raised s

/-- The state an operation ends in, raised or not. -/
def Res.state {α : Type} : Res α → State
  | .ok _ s => s
  | .raised s => s

/-- What a meaning answers. -/
abbrev Exec := Host.Outcome State Fault Refusal

/-- The end of an instruction's effect, as a meaning answers it: the faulted state is a next state, whose `fault`
field ends the step. -/
def Res.done (r : Res Unit) : Exec := .next r.state

/-! ## Faults -/

/-- `raise`: `faulted <- 1` and the record `(kind, pc0, detail)` (60_exceptions.md R320). -/
def raiseFault (k : FaultKind) (s : State) : State := { s with fault := some { kind := k, pc := s.pc0 } }

/-! ## The bus -/

/-- The registers this block owns in `0xFF00–0xFF7F` (20_memory.md R70). -/
inductive IoReg where
  | div
  | tima
  | tma
  | tac
  | ifl
  | lcdc
  | stat
  | scy
  | scx
  | ly
  | lyc
  | dma
  | bgp
  | obp0
  | obp1
  | wy
  | wx
  | bootOff
  deriving DecidableEq, Repr

/-- The one place an access is routed to (20_memory.md R60, R61), with the offset in its region. -/
inductive Target where
  | boot (i : Nat)
  | cart (n : Nat)
  | vram (i : Nat)
  | wram (i : Nat)
  | oam (i : Nat)
  | reserved
  | io (r : IoReg)
  | port (a : Word)
  | hram (i : Nat)
  | ie
  | uncovered
  deriving DecidableEq, Repr

/-- The I/O page `0xFF00–0xFF7F` (20_memory.md R70, R83). -/
def locateIo (a : Word) : Target :=
  match a.toNat with
  | 0xFF00 => .port a
  | 0xFF01 => .port a
  | 0xFF02 => .port a
  | 0xFF04 => .io .div
  | 0xFF05 => .io .tima
  | 0xFF06 => .io .tma
  | 0xFF07 => .io .tac
  | 0xFF0F => .io .ifl
  | 0xFF40 => .io .lcdc
  | 0xFF41 => .io .stat
  | 0xFF42 => .io .scy
  | 0xFF43 => .io .scx
  | 0xFF44 => .io .ly
  | 0xFF45 => .io .lyc
  | 0xFF46 => .io .dma
  | 0xFF47 => .io .bgp
  | 0xFF48 => .io .obp0
  | 0xFF49 => .io .obp1
  | 0xFF4A => .io .wy
  | 0xFF4B => .io .wx
  | 0xFF50 => .io .bootOff
  | n => if 0xFF10 ≤ n ∧ n ≤ 0xFF3F then .port a else .uncovered

/-- The address map (20_memory.md R61), the overlay of R72 seen when `overlay` holds. -/
def locate (overlay : Bool) (a : Word) : Target :=
  let n := a.toNat
  if n < 0x8000 then (if overlay && decide (n < 0x100) then .boot n else .cart n)
  else if n < 0xA000 then .vram (n - 0x8000)
  else if n < 0xC000 then .cart n
  else if n < 0xE000 then .wram (n - 0xC000)
  else if n < 0xFE00 then .wram (n - 0xE000)
  else if n < 0xFEA0 then .oam (n - 0xFE00)
  else if n < 0xFF00 then .reserved
  else if n < 0xFF80 then locateIo a
  else if n < 0xFFFF then .hram (n - 0xFF80)
  else .ie

/-- What a read of an owned I/O register returns (20_memory.md R70). -/
def readIo (r : IoReg) (s : State) : Byte :=
  match r with
  | .div => hi8 s.timer.divider
  | .tima => s.timer.tima
  | .tma => s.timer.tma
  | .tac => 0b11111#5 ++ s.timer.tac
  | .ifl => s.irq.ifl
  | .lcdc => s.ppu.lcdc
  | .stat => s.ppu.statByte
  | .scy => s.ppu.scy
  | .scx => s.ppu.scx
  | .ly => s.ppu.ly
  | .lyc => s.ppu.lyc
  | .dma => s.dma.src
  | .bgp => s.ppu.bgp
  | .obp0 => s.ppu.obp0
  | .obp1 => s.ppu.obp1
  | .wy => s.ppu.wy
  | .wx => s.ppu.wx
  | .bootOff => 0xFF#8

/-- What a write to an owned I/O register does (20_memory.md R70; 10_state.md R33 to R38; 60_exceptions.md R353, R360,
R371). -/
def writeIo (r : IoReg) (v : Byte) (s : State) : State :=
  match r with
  | .div => { s with timer.divider := 0 }
  | .tima => { s with timer.tima := v }
  | .tma => { s with timer.tma := v }
  | .tac => { s with timer.tac := v.extractLsb' 0 3 }
  | .ifl => { s with irq.ifl := v }
  | .lcdc => { s with ppu := s.ppu.writeLcdc v }
  | .stat => { s with ppu.statEn := v.extractLsb' 3 4 }
  | .scy => { s with ppu.scy := v }
  | .scx => { s with ppu.scx := v }
  | .ly => s
  | .lyc => { s with ppu.lyc := v }
  | .dma => { s with dma := { active := true, src := v, offset := 0 } }
  | .bgp => { s with ppu.bgp := v }
  | .obp0 => { s with ppu.obp0 := v }
  | .obp1 => { s with ppu.obp1 := v }
  | .wy => { s with ppu.wy := v }
  | .wx => { s with ppu.wx := v }
  | .bootOff => { s with bootEnabled := false }

/-- The byte a read of a covered place of this block returns, with no side effect (20_memory.md R84); `none` for an
external port, whose answer is a draw, and for an uncovered address. -/
def readTarget (t : Target) (s : State) : Option Byte :=
  match t with
  | .boot i => some (Memory.read s.cfg.bootRom i)
  | .cart n => some (cartRead n s)
  | .vram i => some (Memory.read s.vram i)
  | .wram i => some (Memory.read s.wram i)
  | .oam i => some (Memory.read s.oam i)
  | .reserved => some 0xFF#8
  | .io r => some (readIo r s)
  | .port _ => none
  | .hram i => some (Memory.read s.hram i)
  | .ie => some s.irq.ie
  | .uncovered => none

/-- The byte at bus address `a`, where the block itself holds it. -/
def peek (a : Word) (s : State) : Option Byte := readTarget (locate s.bootEnabled a) s

/-- `MemRead(a, 1)` (00_scope.md R12; 20_memory.md R60, R83, R84). -/
def busRead (a : Word) (s : State) : Res Byte :=
  match locate s.bootEnabled a with
  | .port p => let (v, s) := portRead p s; .ok v s
  | .uncovered => .raised (raiseFault (.busFault a) s)
  | t => .ok ((readTarget t s).getD 0) s

/-- A write routed to its place (20_memory.md R62 to R72). -/
def writeTarget (t : Target) (v : Byte) (s : State) : State :=
  match t with
  | .boot _ => s
  | .cart n => cartWrite n v s
  | .vram i => { s with vram := Memory.write s.vram i v }
  | .wram i => { s with wram := Memory.write s.wram i v }
  | .oam i => { s with oam := Memory.write s.oam i v }
  | .reserved => s
  | .io r => writeIo r v s
  | .port p => portWrite p v s
  | .hram i => { s with hram := Memory.write s.hram i v }
  | .ie => { s with irq.ie := v }
  | .uncovered => s

/-- `MemWrite(a, 1, v)` (00_scope.md R12; 20_memory.md R60, R83). A write below `0x0100` reaches the cartridge whether
or not the overlay is on (R72). -/
def busWrite (a : Word) (v : Byte) (s : State) : Res Unit :=
  match locate false a with
  | .uncovered => .raised (raiseFault (.busFault a) s)
  | t => .ok () (writeTarget t v s)

/-- `MemWrite(a, 2, v)`: low byte first, at the lower address (00_scope.md R12). -/
def busWrite16 (a v : Word) (s : State) : Res Unit :=
  (busWrite a (lo8 v) s).bind fun _ s => busWrite (a + 1) (hi8 v) s

/-! ## Fetch and stack primitives -/

/-- `PC <- v`. -/
def setPc (v : Word) (s : State) : State := { s with regs.pc := v }

/-- `SP <- v`. -/
def setSp (v : Word) (s : State) : State := { s with regs.sp := v }

/-- `Fetch8()` (00_scope.md R13). -/
def fetch8 (s : State) : Res Byte :=
  (busRead s.regs.pc s).bind fun v s => .ok v (setPc (s.regs.pc + 1) s)

/-- `Push16(v)` (00_scope.md R14). -/
def push16 (v : Word) (s : State) : Res Unit :=
  let s := setSp (s.regs.sp - 1) s
  (busWrite s.regs.sp (hi8 v) s).bind fun _ s =>
    let s := setSp (s.regs.sp - 1) s
    busWrite s.regs.sp (lo8 v) s

/-- `Pop16()` (00_scope.md R14). -/
def pop16 (s : State) : Res Word :=
  (busRead s.regs.sp s).bind fun lo s =>
    let s := setSp (s.regs.sp + 1) s
    (busRead s.regs.sp s).bind fun hi s =>
      .ok (pair hi lo) (setSp (s.regs.sp + 1) s)

/-! ## One T-cycle -/

/-- `IF <- IF | m` (60_exceptions.md R330). -/
def requestInt (m : Byte) (s : State) : State := { s with irq.ifl := s.irq.ifl ||| m }

/-- `m` when the event `c` happened, else no bit. -/
def ifBits (c : Bool) (m : Byte) : Byte := if c then m else 0x00#8

/-- `SelBit(TAC[1:0])` (60_exceptions.md R351). -/
def selBit (tac : BitVec 3) : Nat :=
  match tac.toNat % 4 with
  | 0 => 9
  | 1 => 3
  | 2 => 5
  | _ => 7

/-- `TimerTick` and `TimaIncrement`: the timer one T-cycle later, and whether `TIMA` overflowed (60_exceptions.md R350,
R352). -/
def Timer.tick (t : Timer) : Timer × Bool :=
  let div := t.divider + 1
  if t.tac.getLsbD 2 && t.divider.getLsbD (selBit t.tac) && !div.getLsbD (selBit t.tac) then
    if t.tima = 0xFF#8 then ({ t with divider := div, tima := t.tma }, true)
    else ({ t with divider := div, tima := t.tima + 1 }, false)
  else ({ t with divider := div }, false)

/-- `TimerTick` (60_exceptions.md R350): an overflow sets `IF` bit 2 in the same tick. -/
def timerTick (s : State) : State :=
  let (t, overflow) := s.timer.tick
  requestInt (ifBits overflow 0x04#8) { s with timer := t }

/-- `ShadeToRGBA(shade)` (60_exceptions.md R389). -/
def ShadeTable.colour (t : ShadeTable) (shade : BitVec 2) : Rgba :=
  match shade.toNat with
  | 0 => t.shade0
  | 1 => t.shade1
  | 2 => t.shade2
  | _ => t.shade3

/-- `PpuTick` (60_exceptions.md R372): the PPU's own change, its `IF` bits, and at most one `Emit`. -/
def ppuTick (s : State) : State :=
  let o := s.ppu.tick s.vram s.oam
  let s := requestInt o.raise { s with ppu := o.ppu }
  match o.pixel with
  | none => s
  | some shade => logEvent (.emit (ShadeTable.colour s.cfg.shades shade)) s

/-- The bus address of the byte the DMA unit copies next (60_exceptions.md R361). -/
def Dma.address (d : Dma) : Word := pair d.src 0x00#8 + zext16 d.offset

/-- `DmaTick` (60_exceptions.md R361). -/
def dmaTick (s : State) : Res Unit :=
  if s.dma.active then
    (busRead s.dma.address s).bind fun v s =>
      .ok () { s with oam := Memory.write s.oam s.dma.offset.toNat v,
                      dma := { s.dma with offset := s.dma.offset + 1, active := decide (s.dma.offset.toNat + 1 ≠ 160) } }
  else .ok () s

/-- `AudioPort.tick()`: a call with no effect on this block's state (00_scope.md R9, 60_exceptions.md R312; log 10). -/
def audioTick (s : State) : State := logEvent .audioTick s

/-- `SerialPort.tick()`: a call that answers with a drawn bit (00_scope.md R9, 60_exceptions.md R312; log 4, 10). -/
def serialTick (s : State) : State :=
  let (b, s) := drawBit (logEvent .serialTick s)
  requestInt (ifBits b 0x08#8) s

/-- The two external ticks that end a T-cycle, audio first (60_exceptions.md R312). -/
def portTicks (s : State) : State := serialTick (audioTick s)

/-- One T-cycle sub-step: clock, timer, PPU, DMA, audio tick, serial tick (60_exceptions.md R312). -/
def tick1 (s : State) : Res Unit :=
  (dmaTick (ppuTick (timerTick { s with clock := s.clock + 1 }))).bind fun _ s => .ok () (portTicks s)

/-- `Tick(n)` (00_scope.md R15, 60_exceptions.md R312). -/
def tickN : Nat → State → Res Unit
  | 0, s => .ok () s
  | n + 1, s => (tick1 s).bind fun _ s => tickN n s

/-! ## Interrupts -/

/-- `0x0040 + 8*k` (60_exceptions.md R332, R337). -/
def interruptVector (k : Nat) : Word := BitVec.ofNat 16 (0x0040 + 8 * k)

/-- The lowest bit number of `p`, among bits 0 to 4, that is set (60_exceptions.md R310 step 3, R333). -/
def lowestPending (p : Byte) : Option Nat := [0, 1, 2, 3, 4].find? (bitAt p)

/-- TAKING AN INTERRUPT, `DispatchInterrupt(k)` (60_exceptions.md R332). -/
def dispatchInterrupt (k : Nat) (s : State) : Res Unit :=
  let s := { s with irq := { s.irq with ime := false, imePending := false, halted := false,
                                        ifl := s.irq.ifl &&& ~~~(1#8 <<< k) } }
  (push16 s.regs.pc s).bind fun _ s => tickN 20 (setPc (interruptVector k) s)

/-- The return from an interrupt: `PC <- Pop16(); IME <- 1` (45_control.md R297). -/
def returnFromInterrupt (s : State) : Res Unit :=
  (pop16 s).bind fun v s => .ok () { setPc v s with irq.ime := true }

/-- Step 3 of `Step`: the dispatch check (60_exceptions.md R310). -/
def dispatchCheck (s : State) : Res Unit :=
  if s.irq.ime then
    match lowestPending (s.irq.ifl &&& s.irq.ie) with
    | some k => dispatchInterrupt k s
    | none => .ok () s
  else .ok () s

/-- Step 4 of `Step`: the delayed enable (60_exceptions.md R310, 10_state.md R29). -/
def applyImePending (s : State) : State :=
  if s.irq.imePending then { s with irq.ime := true, irq.imePending := false } else s

/-- Step 1 of `Step`: the resume test on all 8 bits, and `pc0 <- PC` (60_exceptions.md R310). -/
def beginStep (s : State) : State :=
  { s with pc0 := s.regs.pc,
           irq.halted := s.irq.halted && (s.irq.ifl &&& s.irq.ie) == 0x00#8 }

/-- Steps 3 and 4 of `Step`, performed unless step 2 raised (60_exceptions.md R310). -/
def endStep (r : Res Unit) : State := (r.bind fun _ s => (dispatchCheck s).bind fun _ s => .ok () (applyImePending s)).state

/-- After the effect of an instruction of cost `n`: `Tick(n)`, unless the effect raised (60_exceptions.md R310, R311). -/
def afterEffect (n : Nat) (s : State) : Res Unit := if s.fault.isSome then .raised s else tickN n s

/-- Add the pair `(pc0, op)` to the diagnostic history (60_exceptions.md R320). -/
def recordHistory (op : Byte) (s : State) : State :=
  { s with history := (⟨s.pc0, op⟩ :: s.history).take s.cfg.historyDepth }

end Sys2Proof.Machine
end

