-- ==== Sys2Proof/Machine/Operands.lean ====
section
/-! DEFINITION. The operand forms: the register, pair and condition fields (30_encoding.md R124 to R128) and the one
place where the flags are read and written (10_state.md R22, R24). -/

namespace Sys2Proof.Machine

/-- The 8-bit registers of the field `r8` (30_encoding.md R124); its value 6 is `(HL)`, a rule of its own. -/
inductive Reg8 where
  | b
  | c
  | d
  | e
  | h
  | l
  | a
  deriving DecidableEq, Repr

/-- The field `r16` (30_encoding.md R125). -/
inductive Reg16 where
  | bc
  | de
  | hl
  | sp
  deriving DecidableEq, Repr

/-- The field `r16stk` (30_encoding.md R126). -/
inductive Reg16Stk where
  | bc
  | de
  | hl
  | af
  deriving DecidableEq, Repr

/-- The field `cc` (30_encoding.md R127). -/
inductive Cond where
  | nz
  | z
  | nc
  | c
  deriving DecidableEq, Repr

/-- `r8[i]`: `none` is the memory byte at `HL` (30_encoding.md R124). -/
def reg8Field (i : BitVec 3) : Option Reg8 :=
  match i.toNat with
  | 0 => some .b
  | 1 => some .c
  | 2 => some .d
  | 3 => some .e
  | 4 => some .h
  | 5 => some .l
  | 6 => none
  | _ => some .a

/-! ## Registers -/

/-- The 8-bit register `r`. -/
def State.reg8 (s : State) : Reg8 → Byte
  | .b => s.regs.b
  | .c => s.regs.c
  | .d => s.regs.d
  | .e => s.regs.e
  | .h => s.regs.h
  | .l => s.regs.l
  | .a => s.regs.a

/-- `r8[r] <- v`. -/
def setReg8 (r : Reg8) (v : Byte) (s : State) : State :=
  match r with
  | .b => { s with regs.b := v }
  | .c => { s with regs.c := v }
  | .d => { s with regs.d := v }
  | .e => { s with regs.e := v }
  | .h => { s with regs.h := v }
  | .l => { s with regs.l := v }
  | .a => { s with regs.a := v }

/-- A pair, its first-named register the high byte (10_state.md R21). -/
def State.bc (s : State) : Word := pair s.regs.b s.regs.c
/-- `DE = {D, E}`. -/
def State.de (s : State) : Word := pair s.regs.d s.regs.e
/-- `HL = {H, L}`. -/
def State.hl (s : State) : Word := pair s.regs.h s.regs.l

/-- `HL <- v` (10_state.md R21). -/
def setHl (v : Word) (s : State) : State := { s with regs.h := hi8 v, regs.l := lo8 v }

/-- `r16[p]` (30_encoding.md R125). -/
def State.reg16 (s : State) : Reg16 → Word
  | .bc => s.bc
  | .de => s.de
  | .hl => s.hl
  | .sp => s.regs.sp

/-- `r16[p] <- v` (10_state.md R21). -/
def setReg16 (p : Reg16) (v : Word) (s : State) : State :=
  match p with
  | .bc => { s with regs.b := hi8 v, regs.c := lo8 v }
  | .de => { s with regs.d := hi8 v, regs.e := lo8 v }
  | .hl => setHl v s
  | .sp => setSp v s

/-! ## Flags -/

/-- What is stored in `F`: `v & 0xF0` (10_state.md R22). -/
def maskF (v : Byte) : Byte := v &&& 0xF0#8

/-- `F` as data: its low nibble reads as zero (10_state.md R22). -/
def State.fByte (s : State) : Byte := maskF s.regs.f

/-- `F <- v` from data (10_state.md R22). -/
def setFByte (v : Byte) (s : State) : State := { s with regs.f := maskF v }

/-- `F.Z`, `F.N`, `F.H`, `F.C` are bits 7, 6, 5, 4 of `F` (00_scope.md R11). -/
def State.flagZ (s : State) : Bool := bitAt s.regs.f 7
/-- `F.N`. -/
def State.flagN (s : State) : Bool := bitAt s.regs.f 6
/-- `F.H`. -/
def State.flagH (s : State) : Bool := bitAt s.regs.f 5
/-- `F.C`. -/
def State.flagC (s : State) : Bool := bitAt s.regs.f 4

/-- `F` with these four flags; the low nibble is zero (10_state.md R22, R24). -/
def packFlags (z n h c : Bool) : Byte :=
  BitVec.ofBool z ++ BitVec.ofBool n ++ BitVec.ofBool h ++ BitVec.ofBool c ++ 0#4

/-- `Z N H C = z n h c` (00_scope.md R11); a `-` of the manual is the old flag passed again. -/
def setFlags (z n h c : Bool) (s : State) : State := { s with regs.f := packFlags z n h c }

/-- `r16stk[p]` (30_encoding.md R126); `PUSH AF` reads `F` with a zero low nibble. -/
def State.reg16Stk (s : State) : Reg16Stk → Word
  | .bc => s.bc
  | .de => s.de
  | .hl => s.hl
  | .af => pair s.regs.a s.fByte

/-- `r16stk[p] <- v`; `POP AF` discards bits 3:0 (41_load16.md R185). -/
def setReg16Stk (p : Reg16Stk) (v : Word) (s : State) : State :=
  match p with
  | .bc => setReg16 .bc v s
  | .de => setReg16 .de v s
  | .hl => setReg16 .hl v s
  | .af => setFByte (lo8 v) { s with regs.a := hi8 v }

/-- `Cond(cc)` (30_encoding.md R127). -/
def State.cond (s : State) : Cond → Bool
  | .nz => !s.flagZ
  | .z => s.flagZ
  | .nc => !s.flagC
  | .c => s.flagC

end Sys2Proof.Machine
end

