-- ==== Sys2Proof/Machine/Flags.lean ====
section
/-! DEFINITION. The pure functions of arithmetic, logic, rotates and shifts with the flags each gives
(42_alu8.md R195, R208, R211, R214, R220, R222, R224; 43_alu16.md R240, R243; 44_rotate_shift_bit.md R250). -/

namespace Sys2Proof.Machine

/-- A result byte and the four flags that go with it. -/
structure AluOut where
  res : Byte
  z   : Bool
  n   : Bool
  h   : Bool
  c   : Bool
  deriving DecidableEq, Repr

/-- `Add8(a, b, cin)` (42_alu8.md R195). -/
def add8 (a b : Byte) (cin : Bool) : AluOut :=
  let sum := a.toNat + b.toNat + cin.toNat
  { res := BitVec.ofNat 8 sum
    z := sum % 256 == 0
    n := false
    h := decide (0x0F < a.toNat % 16 + b.toNat % 16 + cin.toNat)
    c := decide (0xFF < sum) }

/-- `Sub8(a, b, cin)` (42_alu8.md R195). -/
def sub8 (a b : Byte) (cin : Bool) : AluOut :=
  let res := BitVec.ofInt 8 ((a.toNat : Int) - b.toNat - cin.toNat)
  { res := res
    z := res == 0#8
    n := true
    h := decide (a.toNat % 16 < b.toNat % 16 + cin.toNat)
    c := decide (a.toNat < b.toNat + cin.toNat) }

/-- `Z N H C = (res = 0) 0 1 0` (42_alu8.md R208). -/
def and8 (a b : Byte) : AluOut := { res := a &&& b, z := (a &&& b) == 0#8, n := false, h := true, c := false }

/-- `Z N H C = (res = 0) 0 0 0` (42_alu8.md R211). -/
def xor8 (a b : Byte) : AluOut := { res := a ^^^ b, z := (a ^^^ b) == 0#8, n := false, h := false, c := false }

/-- `Z N H C = (res = 0) 0 0 0` (42_alu8.md R214). -/
def or8 (a b : Byte) : AluOut := { res := a ||| b, z := (a ||| b) == 0#8, n := false, h := false, c := false }

/-- `INC`: `C` is kept (42_alu8.md R220). -/
def inc8 (v : Byte) (c : Bool) : AluOut :=
  { res := v + 1, z := (v + 1) == 0#8, n := false, h := (v &&& 0x0F#8) == 0x0F#8, c := c }

/-- `DEC`: `C` is kept (42_alu8.md R222). -/
def dec8 (v : Byte) (c : Bool) : AluOut :=
  { res := v - 1, z := (v - 1) == 0#8, n := true, h := (v &&& 0x0F#8) == 0x00#8, c := c }

/-- `DAA` (42_alu8.md R224). -/
def daa8 (a : Byte) (n h c : Bool) : AluOut :=
  if n then
    let res := a - ((if h then 0x06#8 else 0#8) ||| (if c then 0x60#8 else 0#8))
    { res := res, z := res == 0#8, n := n, h := false, c := c }
  else
    let low := h || decide (0x09 < a.toNat % 16)
    let high := c || decide (0x99 < a.toNat)
    let res := a + ((if low then 0x06#8 else 0#8) ||| (if high then 0x60#8 else 0#8))
    { res := res, z := res == 0#8, n := n, h := false, c := high }

/-- A 16-bit result and its half carry and carry. -/
structure Add16Out where
  res : Word
  h   : Bool
  c   : Bool
  deriving DecidableEq, Repr

/-- `HL + s`: carries out of bit 11 and bit 15 (43_alu16.md R240). -/
def add16 (a b : Word) : Add16Out :=
  { res := a + b
    h := decide (0x0FFF < a.toNat % 0x1000 + b.toNat % 0x1000)
    c := decide (0xFFFF < a.toNat + b.toNat) }

/-- `SP + sext_16(e)`: carries out of bits 3 and 7 of the low byte, `e` taken as an unsigned byte (43_alu16.md R243,
41_load16.md R183). -/
def addSpE (sp : Word) (e : Byte) : Add16Out :=
  { res := sp + sext16 e
    h := decide (0x0F < sp.toNat % 16 + e.toNat % 16)
    c := decide (0xFF < sp.toNat % 256 + e.toNat) }

/-- The eight rotate and shift operations (30_encoding.md R128). -/
inductive ShiftOp where
  | rlc
  | rrc
  | rl
  | rr
  | sla
  | sra
  | swap
  | srl
  deriving DecidableEq, Repr

/-- The 3-bit rotate/shift field of CB rows `0x00–0x3F` (30_encoding.md R128). -/
def shiftField (i : BitVec 3) : ShiftOp :=
  match i.toNat with
  | 0 => .rlc
  | 1 => .rrc
  | 2 => .rl
  | 3 => .rr
  | 4 => .sla
  | 5 => .sra
  | 6 => .swap
  | _ => .srl

/-- The result byte and the bit moved out (44_rotate_shift_bit.md R250). -/
def shift8 (k : ShiftOp) (v : Byte) (cin : Bool) : Byte × Bool :=
  match k with
  | .rlc => ((v <<< 1) ||| (v >>> 7), bitAt v 7)
  | .rrc => ((v >>> 1) ||| (v <<< 7), bitAt v 0)
  | .rl => ((v <<< 1) ||| (BitVec.ofBool cin).setWidth 8, bitAt v 7)
  | .rr => ((v >>> 1) ||| ((BitVec.ofBool cin).setWidth 8 <<< 7), bitAt v 0)
  | .sla => (v <<< 1, bitAt v 7)
  | .sra => ((v >>> 1) ||| (v &&& 0x80#8), bitAt v 0)
  | .swap => (((v &&& 0x0F#8) <<< 4) ||| (v >>> 4), false)
  | .srl => (v >>> 1, bitAt v 0)

/-- `1 << bbb`. -/
def bitMask (b : Nat) : Byte := 1#8 <<< b

end Sys2Proof.Machine
end

