-- ==== Sys2Proof/Machine/Alu16.lean ====
section
/-! DEFINITION. 16-bit arithmetic (43_alu16.md). -/

namespace Sys2Proof.Machine

/-- `HL <- HL + r16[p]`; `Z` is not written (R240). -/
def addHl (p : Reg16) (s : State) : Exec :=
  let o := add16 s.hl (s.reg16 p)
  .next (setFlags s.flagZ false o.h o.c (setHl o.res s))

/-- `r16[p] <- r16[p] + 1` (R241). -/
def incPair (p : Reg16) (s : State) : Exec := .next (setReg16 p (s.reg16 p + 1) s)

/-- `r16[p] <- r16[p] - 1` (R242). -/
def decPair (p : Reg16) (s : State) : Exec := .next (setReg16 p (s.reg16 p - 1) s)

/-- `SP <- SP + sext_16(e)`, `Z = N = 0` (R243). -/
def addSp (e : Byte) (s : State) : Exec :=
  let o := addSpE s.regs.sp e
  .next (setFlags false false o.h o.c (setSp o.res s))

/-! ## The instructions -/

/-- `INC BC` (R241). -/
def exec_inc_bc (s : State) : Exec := incPair .bc s
/-- `ADD HL,BC` (R240). -/
def exec_add_hl_bc (s : State) : Exec := addHl .bc s
/-- `DEC BC` (R242). -/
def exec_dec_bc (s : State) : Exec := decPair .bc s
/-- `INC DE` (R241). -/
def exec_inc_de (s : State) : Exec := incPair .de s
/-- `ADD HL,DE` (R240). -/
def exec_add_hl_de (s : State) : Exec := addHl .de s
/-- `DEC DE` (R242). -/
def exec_dec_de (s : State) : Exec := decPair .de s
/-- `INC HL` (R241). -/
def exec_inc_hl (s : State) : Exec := incPair .hl s
/-- `ADD HL,HL` (R240). -/
def exec_add_hl_hl (s : State) : Exec := addHl .hl s
/-- `DEC HL` (R242). -/
def exec_dec_hl (s : State) : Exec := decPair .hl s
/-- `INC SP` (R241). -/
def exec_inc_sp (s : State) : Exec := incPair .sp s
/-- `ADD HL,SP` (R240). -/
def exec_add_hl_sp (s : State) : Exec := addHl .sp s
/-- `DEC SP` (R242). -/
def exec_dec_sp (s : State) : Exec := decPair .sp s
/-- `ADD SP,e` (R243). -/
def exec_add_sp_e (e : Byte) (s : State) : Exec := addSp e s

end Sys2Proof.Machine
end

