-- ==== Sys2Proof/Machine/Alu8.lean ====
section
/-! DEFINITION. 8-bit arithmetic and logic (42_alu8.md). -/

namespace Sys2Proof.Machine

/-- The ALU operations of the field `aaa` (30_encoding.md R128). -/
inductive AluOp where
  | add
  | adc
  | sub
  | sbc
  | and
  | xor
  | or
  | cp
  deriving DecidableEq, Repr

/-- The result and flags of an ALU operation on `A = a`, operand `b` and old carry `cin` (R195 to R219). -/
def aluOut (k : AluOp) (a b : Byte) (cin : Bool) : AluOut :=
  match k with
  | .add => add8 a b false
  | .adc => add8 a b cin
  | .sub => sub8 a b false
  | .sbc => sub8 a b cin
  | .and => and8 a b
  | .xor => xor8 a b
  | .or => or8 a b
  | .cp => sub8 a b false

/-- Write the four flags of a result. -/
def setAluFlags (o : AluOut) (s : State) : State := setFlags o.z o.n o.h o.c s

/-- Apply an ALU operation to `A` and `b`; `CP` does not write `A` (R217). -/
def aluApply (k : AluOp) (b : Byte) (s : State) : State :=
  let o := aluOut k s.regs.a b s.flagC
  let s := setAluFlags o s
  if k = .cp then s else setReg8 .a o.res s

/-- The form with a register. -/
def aluReg (k : AluOp) (r : Reg8) (s : State) : Exec := .next (aluApply k (s.reg8 r) s)

/-- The form with `(HL)`. -/
def aluMem (k : AluOp) (s : State) : Exec :=
  ((busRead s.hl s).bind fun b s => .ok () (aluApply k b s)).done

/-- The form with an immediate. -/
def aluImm (k : AluOp) (n : Byte) (s : State) : Exec := .next (aluApply k n s)

/-- `INC r` (R220). -/
def incReg (r : Reg8) (s : State) : Exec :=
  let o := inc8 (s.reg8 r) s.flagC
  .next (setReg8 r o.res (setAluFlags o s))

/-- `DEC r` (R222). -/
def decReg (r : Reg8) (s : State) : Exec :=
  let o := dec8 (s.reg8 r) s.flagC
  .next (setReg8 r o.res (setAluFlags o s))

/-- `INC (HL)`: one read, then one write of the same address (R221). -/
def incMem (s : State) : Exec :=
  ((busRead s.hl s).bind fun b s =>
    let o := inc8 b s.flagC
    (busWrite s.hl o.res s).bind fun _ s => .ok () (setAluFlags o s)).done

/-- `DEC (HL)` (R223). -/
def decMem (s : State) : Exec :=
  ((busRead s.hl s).bind fun b s =>
    let o := dec8 b s.flagC
    (busWrite s.hl o.res s).bind fun _ s => .ok () (setAluFlags o s)).done

/-- `DAA` (R224). -/
def decimalAdjust (s : State) : Exec :=
  let o := daa8 s.regs.a s.flagN s.flagH s.flagC
  .next (setReg8 .a o.res (setAluFlags o s))

/-- `A <- ~A; Z N H C = - 1 1 -` (R225). -/
def complementA (s : State) : Exec := .next (setFlags s.flagZ true true s.flagC (setReg8 .a (~~~s.regs.a) s))

/-- `Z N H C = - 0 0 1` (R226). -/
def setCarry (s : State) : Exec := .next (setFlags s.flagZ false false true s)

/-- `Z N H C = - 0 0 (1 - F.C)` (R227). -/
def complementCarry (s : State) : Exec := .next (setFlags s.flagZ false false (!s.flagC) s)

/-! ## The instructions -/

/-- `INC B` (R220). -/
def exec_inc_b (s : State) : Exec := incReg .b s
/-- `DEC B` (R222). -/
def exec_dec_b (s : State) : Exec := decReg .b s
/-- `INC C` (R220). -/
def exec_inc_c (s : State) : Exec := incReg .c s
/-- `DEC C` (R222). -/
def exec_dec_c (s : State) : Exec := decReg .c s
/-- `INC D` (R220). -/
def exec_inc_d (s : State) : Exec := incReg .d s
/-- `DEC D` (R222). -/
def exec_dec_d (s : State) : Exec := decReg .d s
/-- `INC E` (R220). -/
def exec_inc_e (s : State) : Exec := incReg .e s
/-- `DEC E` (R222). -/
def exec_dec_e (s : State) : Exec := decReg .e s
/-- `INC H` (R220). -/
def exec_inc_h (s : State) : Exec := incReg .h s
/-- `DEC H` (R222). -/
def exec_dec_h (s : State) : Exec := decReg .h s
/-- `DAA` (R224). -/
def exec_daa (s : State) : Exec := decimalAdjust s
/-- `INC L` (R220). -/
def exec_inc_l (s : State) : Exec := incReg .l s
/-- `DEC L` (R222). -/
def exec_dec_l (s : State) : Exec := decReg .l s
/-- `CPL` (R225). -/
def exec_cpl (s : State) : Exec := complementA s
/-- `INC (HL)` (R221). -/
def exec_inc_mhl (s : State) : Exec := incMem s
/-- `DEC (HL)` (R223). -/
def exec_dec_mhl (s : State) : Exec := decMem s
/-- `SCF` (R226). -/
def exec_scf (s : State) : Exec := setCarry s
/-- `INC A` (R220). -/
def exec_inc_a (s : State) : Exec := incReg .a s
/-- `DEC A` (R222). -/
def exec_dec_a (s : State) : Exec := decReg .a s
/-- `CCF` (R227). -/
def exec_ccf (s : State) : Exec := complementCarry s
/-- `ADD A,B` (R196). -/
def exec_add_a_b (s : State) : Exec := aluReg .add .b s
/-- `ADD A,C` (R196). -/
def exec_add_a_c (s : State) : Exec := aluReg .add .c s
/-- `ADD A,D` (R196). -/
def exec_add_a_d (s : State) : Exec := aluReg .add .d s
/-- `ADD A,E` (R196). -/
def exec_add_a_e (s : State) : Exec := aluReg .add .e s
/-- `ADD A,H` (R196). -/
def exec_add_a_h (s : State) : Exec := aluReg .add .h s
/-- `ADD A,L` (R196). -/
def exec_add_a_l (s : State) : Exec := aluReg .add .l s
/-- `ADD A,(HL)` (R197). -/
def exec_add_a_mhl (s : State) : Exec := aluMem .add s
/-- `ADD A,A` (R196). -/
def exec_add_a_a (s : State) : Exec := aluReg .add .a s
/-- `ADC A,B` (R199). -/
def exec_adc_a_b (s : State) : Exec := aluReg .adc .b s
/-- `ADC A,C` (R199). -/
def exec_adc_a_c (s : State) : Exec := aluReg .adc .c s
/-- `ADC A,D` (R199). -/
def exec_adc_a_d (s : State) : Exec := aluReg .adc .d s
/-- `ADC A,E` (R199). -/
def exec_adc_a_e (s : State) : Exec := aluReg .adc .e s
/-- `ADC A,H` (R199). -/
def exec_adc_a_h (s : State) : Exec := aluReg .adc .h s
/-- `ADC A,L` (R199). -/
def exec_adc_a_l (s : State) : Exec := aluReg .adc .l s
/-- `ADC A,(HL)` (R200). -/
def exec_adc_a_mhl (s : State) : Exec := aluMem .adc s
/-- `ADC A,A` (R199). -/
def exec_adc_a_a (s : State) : Exec := aluReg .adc .a s
/-- `SUB B` (R202). -/
def exec_sub_b (s : State) : Exec := aluReg .sub .b s
/-- `SUB C` (R202). -/
def exec_sub_c (s : State) : Exec := aluReg .sub .c s
/-- `SUB D` (R202). -/
def exec_sub_d (s : State) : Exec := aluReg .sub .d s
/-- `SUB E` (R202). -/
def exec_sub_e (s : State) : Exec := aluReg .sub .e s
/-- `SUB H` (R202). -/
def exec_sub_h (s : State) : Exec := aluReg .sub .h s
/-- `SUB L` (R202). -/
def exec_sub_l (s : State) : Exec := aluReg .sub .l s
/-- `SUB (HL)` (R203). -/
def exec_sub_mhl (s : State) : Exec := aluMem .sub s
/-- `SUB A` (R202). -/
def exec_sub_a (s : State) : Exec := aluReg .sub .a s
/-- `SBC A,B` (R205). -/
def exec_sbc_a_b (s : State) : Exec := aluReg .sbc .b s
/-- `SBC A,C` (R205). -/
def exec_sbc_a_c (s : State) : Exec := aluReg .sbc .c s
/-- `SBC A,D` (R205). -/
def exec_sbc_a_d (s : State) : Exec := aluReg .sbc .d s
/-- `SBC A,E` (R205). -/
def exec_sbc_a_e (s : State) : Exec := aluReg .sbc .e s
/-- `SBC A,H` (R205). -/
def exec_sbc_a_h (s : State) : Exec := aluReg .sbc .h s
/-- `SBC A,L` (R205). -/
def exec_sbc_a_l (s : State) : Exec := aluReg .sbc .l s
/-- `SBC A,(HL)` (R206). -/
def exec_sbc_a_mhl (s : State) : Exec := aluMem .sbc s
/-- `SBC A,A` (R205). -/
def exec_sbc_a_a (s : State) : Exec := aluReg .sbc .a s
/-- `AND B` (R208). -/
def exec_and_b (s : State) : Exec := aluReg .and .b s
/-- `AND C` (R208). -/
def exec_and_c (s : State) : Exec := aluReg .and .c s
/-- `AND D` (R208). -/
def exec_and_d (s : State) : Exec := aluReg .and .d s
/-- `AND E` (R208). -/
def exec_and_e (s : State) : Exec := aluReg .and .e s
/-- `AND H` (R208). -/
def exec_and_h (s : State) : Exec := aluReg .and .h s
/-- `AND L` (R208). -/
def exec_and_l (s : State) : Exec := aluReg .and .l s
/-- `AND (HL)` (R209). -/
def exec_and_mhl (s : State) : Exec := aluMem .and s
/-- `AND A` (R208). -/
def exec_and_a (s : State) : Exec := aluReg .and .a s
/-- `XOR B` (R211). -/
def exec_xor_b (s : State) : Exec := aluReg .xor .b s
/-- `XOR C` (R211). -/
def exec_xor_c (s : State) : Exec := aluReg .xor .c s
/-- `XOR D` (R211). -/
def exec_xor_d (s : State) : Exec := aluReg .xor .d s
/-- `XOR E` (R211). -/
def exec_xor_e (s : State) : Exec := aluReg .xor .e s
/-- `XOR H` (R211). -/
def exec_xor_h (s : State) : Exec := aluReg .xor .h s
/-- `XOR L` (R211). -/
def exec_xor_l (s : State) : Exec := aluReg .xor .l s
/-- `XOR (HL)` (R212). -/
def exec_xor_mhl (s : State) : Exec := aluMem .xor s
/-- `XOR A` (R211). -/
def exec_xor_a (s : State) : Exec := aluReg .xor .a s
/-- `OR B` (R214). -/
def exec_or_b (s : State) : Exec := aluReg .or .b s
/-- `OR C` (R214). -/
def exec_or_c (s : State) : Exec := aluReg .or .c s
/-- `OR D` (R214). -/
def exec_or_d (s : State) : Exec := aluReg .or .d s
/-- `OR E` (R214). -/
def exec_or_e (s : State) : Exec := aluReg .or .e s
/-- `OR H` (R214). -/
def exec_or_h (s : State) : Exec := aluReg .or .h s
/-- `OR L` (R214). -/
def exec_or_l (s : State) : Exec := aluReg .or .l s
/-- `OR (HL)` (R215). -/
def exec_or_mhl (s : State) : Exec := aluMem .or s
/-- `OR A` (R214). -/
def exec_or_a (s : State) : Exec := aluReg .or .a s
/-- `CP B` (R217). -/
def exec_cp_b (s : State) : Exec := aluReg .cp .b s
/-- `CP C` (R217). -/
def exec_cp_c (s : State) : Exec := aluReg .cp .c s
/-- `CP D` (R217). -/
def exec_cp_d (s : State) : Exec := aluReg .cp .d s
/-- `CP E` (R217). -/
def exec_cp_e (s : State) : Exec := aluReg .cp .e s
/-- `CP H` (R217). -/
def exec_cp_h (s : State) : Exec := aluReg .cp .h s
/-- `CP L` (R217). -/
def exec_cp_l (s : State) : Exec := aluReg .cp .l s
/-- `CP (HL)` (R218). -/
def exec_cp_mhl (s : State) : Exec := aluMem .cp s
/-- `CP A` (R217). -/
def exec_cp_a (s : State) : Exec := aluReg .cp .a s
/-- `ADD A,n` (R198). -/
def exec_add_a_n (n : Byte) (s : State) : Exec := aluImm .add n s
/-- `ADC A,n` (R201). -/
def exec_adc_a_n (n : Byte) (s : State) : Exec := aluImm .adc n s
/-- `SUB n` (R204). -/
def exec_sub_n (n : Byte) (s : State) : Exec := aluImm .sub n s
/-- `SBC A,n` (R207). -/
def exec_sbc_a_n (n : Byte) (s : State) : Exec := aluImm .sbc n s
/-- `AND n` (R210). -/
def exec_and_n (n : Byte) (s : State) : Exec := aluImm .and n s
/-- `XOR n` (R213). -/
def exec_xor_n (n : Byte) (s : State) : Exec := aluImm .xor n s
/-- `OR n` (R216). -/
def exec_or_n (n : Byte) (s : State) : Exec := aluImm .or n s
/-- `CP n` (R219). -/
def exec_cp_n (n : Byte) (s : State) : Exec := aluImm .cp n s

end Sys2Proof.Machine
end

