-- ==== Sys2Proof/Machine/Control.lean ====
section
/-! DEFINITION. Control transfer (45_control.md). `PC` holds the address after the instruction's bytes when a meaning runs (R295). -/

namespace Sys2Proof.Machine

/-- `PC <- a` (R286, R288). -/
def jumpTo (a : Word) (s : State) : Exec := .next (setPc a s)

/-- `if Cond(cc) then PC <- nn` (R287). -/
def jumpIf (cc : Cond) (nn : Word) (s : State) : Exec := .next (if s.cond cc then setPc nn s else s)

/-- `PC <- PC + sext_16(e)` (R289). -/
def jumpRel (e : Byte) (s : State) : Exec := .next (setPc (s.regs.pc + sext16 e) s)

/-- `if Cond(cc) then PC <- PC + sext_16(e)` (R290). -/
def jumpRelIf (cc : Cond) (e : Byte) (s : State) : Exec :=
  .next (if s.cond cc then setPc (s.regs.pc + sext16 e) s else s)

/-- `Push16(PC); PC <- a` (R291, R298). -/
def callRes (a : Word) (s : State) : Res Unit := (push16 s.regs.pc s).bind fun _ s => .ok () (setPc a s)

/-- `CALL nn` (R291). -/
def callTo (nn : Word) (s : State) : Exec := (callRes nn s).done

/-- `CALL cc,nn`: "not taken touches neither `SP` nor memory" (R292). -/
def callIf (cc : Cond) (nn : Word) (s : State) : Exec := (if s.cond cc then callRes nn s else .ok () s).done

/-- `PC <- Pop16()` (R293). -/
def returnRes (s : State) : Res Unit := (pop16 s).bind fun v s => .ok () (setPc v s)

/-- `RET` (R293). -/
def returnOp (s : State) : Exec := (returnRes s).done

/-- `if Cond(cc) then PC <- Pop16()` (R294). -/
def returnIf (cc : Cond) (s : State) : Exec := (if s.cond cc then returnRes s else .ok () s).done

/-- `RETI` (R297). -/
def returnInt (s : State) : Exec := (returnFromInterrupt s).done

/-- `Push16(PC); PC <- ttt * 8` (R298). -/
def restart (t : BitVec 3) (s : State) : Exec := (callRes (rstTarget t) s).done

/-! ## The instructions -/

/-- `JR e` (R289). -/
def exec_jr_e (e : Byte) (s : State) : Exec := jumpRel e s
/-- `JR NZ,e` (R290). -/
def exec_jr_nz_e (e : Byte) (s : State) : Exec := jumpRelIf .nz e s
/-- `JR Z,e` (R290). -/
def exec_jr_z_e (e : Byte) (s : State) : Exec := jumpRelIf .z e s
/-- `JR NC,e` (R290). -/
def exec_jr_nc_e (e : Byte) (s : State) : Exec := jumpRelIf .nc e s
/-- `JR C,e` (R290). -/
def exec_jr_c_e (e : Byte) (s : State) : Exec := jumpRelIf .c e s
/-- `RET NZ` (R294). -/
def exec_ret_nz (s : State) : Exec := returnIf .nz s
/-- `JP NZ,nn` (R287). -/
def exec_jp_nz_nn (nn : Word) (s : State) : Exec := jumpIf .nz nn s
/-- `JP nn` (R286). -/
def exec_jp_nn (nn : Word) (s : State) : Exec := jumpTo nn s
/-- `CALL NZ,nn` (R292). -/
def exec_call_nz_nn (nn : Word) (s : State) : Exec := callIf .nz nn s
/-- `RST 0x00` (R298). -/
def exec_rst_00 (s : State) : Exec := restart 0 s
/-- `RET Z` (R294). -/
def exec_ret_z (s : State) : Exec := returnIf .z s
/-- `RET` (R293). -/
def exec_ret (s : State) : Exec := returnOp s
/-- `JP Z,nn` (R287). -/
def exec_jp_z_nn (nn : Word) (s : State) : Exec := jumpIf .z nn s
/-- `CALL Z,nn` (R292). -/
def exec_call_z_nn (nn : Word) (s : State) : Exec := callIf .z nn s
/-- `CALL nn` (R291). -/
def exec_call_nn (nn : Word) (s : State) : Exec := callTo nn s
/-- `RST 0x08` (R298). -/
def exec_rst_08 (s : State) : Exec := restart 1 s
/-- `RET NC` (R294). -/
def exec_ret_nc (s : State) : Exec := returnIf .nc s
/-- `JP NC,nn` (R287). -/
def exec_jp_nc_nn (nn : Word) (s : State) : Exec := jumpIf .nc nn s
/-- `CALL NC,nn` (R292). -/
def exec_call_nc_nn (nn : Word) (s : State) : Exec := callIf .nc nn s
/-- `RST 0x10` (R298). -/
def exec_rst_10 (s : State) : Exec := restart 2 s
/-- `RET C` (R294). -/
def exec_ret_c (s : State) : Exec := returnIf .c s
/-- `RETI` (R297). -/
def exec_reti (s : State) : Exec := returnInt s
/-- `JP C,nn` (R287). -/
def exec_jp_c_nn (nn : Word) (s : State) : Exec := jumpIf .c nn s
/-- `CALL C,nn` (R292). -/
def exec_call_c_nn (nn : Word) (s : State) : Exec := callIf .c nn s
/-- `RST 0x18` (R298). -/
def exec_rst_18 (s : State) : Exec := restart 3 s
/-- `RST 0x20` (R298). -/
def exec_rst_20 (s : State) : Exec := restart 4 s
/-- `JP HL` (R288). -/
def exec_jp_hl (s : State) : Exec := jumpTo s.hl s
/-- `RST 0x28` (R298). -/
def exec_rst_28 (s : State) : Exec := restart 5 s
/-- `RST 0x30` (R298). -/
def exec_rst_30 (s : State) : Exec := restart 6 s
/-- `RST 0x38` (R298). -/
def exec_rst_38 (s : State) : Exec := restart 7 s

end Sys2Proof.Machine
end

