-- ==== Sys2Proof/Machine/Load16.lean ====
section
/-! DEFINITION. The 16-bit loads and the stack (41_load16.md). -/

namespace Sys2Proof.Machine

/-- `r16[p] <- nn` (R180). -/
def loadPair (p : Reg16) (nn : Word) (s : State) : Exec := .next (setReg16 p nn s)

/-- `MemWrite(nn, 1, SP[7:0]); MemWrite(nn + 1, 1, SP[15:8])` (R181). -/
def storeSp (nn : Word) (s : State) : Exec := (busWrite16 nn s.regs.sp s).done

/-- `SP <- HL` (R182). -/
def loadSpHl (s : State) : Exec := .next (setSp s.hl s)

/-- `HL <- SP + sext_16(e)`, with the flags of `addSpE` (R183). -/
def loadHlSp (e : Byte) (s : State) : Exec :=
  let o := addSpE s.regs.sp e
  .next (setFlags false false o.h o.c (setHl o.res s))

/-- `Push16(r16stk[p])` (R184). -/
def pushPair (p : Reg16Stk) (s : State) : Exec := (push16 (s.reg16Stk p) s).done

/-- `r16stk[p] <- Pop16()` (R185). -/
def popPair (p : Reg16Stk) (s : State) : Exec :=
  ((pop16 s).bind fun v s => .ok () (setReg16Stk p v s)).done

/-! ## The instructions -/

/-- `LD BC,nn` (R180). -/
def exec_ld_bc_nn (nn : Word) (s : State) : Exec := loadPair .bc nn s
/-- `LD (nn),SP` (R181). -/
def exec_ld_mnn_sp (nn : Word) (s : State) : Exec := storeSp nn s
/-- `LD DE,nn` (R180). -/
def exec_ld_de_nn (nn : Word) (s : State) : Exec := loadPair .de nn s
/-- `LD HL,nn` (R180). -/
def exec_ld_hl_nn (nn : Word) (s : State) : Exec := loadPair .hl nn s
/-- `LD SP,nn` (R180). -/
def exec_ld_sp_nn (nn : Word) (s : State) : Exec := loadPair .sp nn s
/-- `POP BC` (R185). -/
def exec_pop_bc (s : State) : Exec := popPair .bc s
/-- `PUSH BC` (R184). -/
def exec_push_bc (s : State) : Exec := pushPair .bc s
/-- `POP DE` (R185). -/
def exec_pop_de (s : State) : Exec := popPair .de s
/-- `PUSH DE` (R184). -/
def exec_push_de (s : State) : Exec := pushPair .de s
/-- `POP HL` (R185). -/
def exec_pop_hl (s : State) : Exec := popPair .hl s
/-- `PUSH HL` (R184). -/
def exec_push_hl (s : State) : Exec := pushPair .hl s
/-- `POP AF` (R185). -/
def exec_pop_af (s : State) : Exec := popPair .af s
/-- `PUSH AF` (R184). -/
def exec_push_af (s : State) : Exec := pushPair .af s
/-- `LD HL,SP+e` (R183). -/
def exec_ld_hl_sp_e (e : Byte) (s : State) : Exec := loadHlSp e s
/-- `LD SP,HL` (R182). -/
def exec_ld_sp_hl (s : State) : Exec := loadSpHl s

end Sys2Proof.Machine
end

