-- ==== Sys2Proof/Machine/Load8.lean ====
section
/-! DEFINITION. The 8-bit loads (40_load8.md). No 8-bit load writes `F` (R150). -/

namespace Sys2Proof.Machine

/-- `r8[d] <- r8[r]` (R151). -/
def loadReg (dst r : Reg8) (s : State) : Exec := .next (setReg8 dst (s.reg8 r) s)

/-- `r8[d] <- n` (R154). -/
def loadImm (dst : Reg8) (n : Byte) (s : State) : Exec := .next (setReg8 dst n s)

/-- `r8[d] <- MemRead(a, 1)` (R152, R156, R157, R160, R162, R164). -/
def loadFrom (dst : Reg8) (a : Word) (s : State) : Exec :=
  ((busRead a s).bind fun v s => .ok () (setReg8 dst v s)).done

/-- `MemWrite(a, 1, v)` (R153, R155, R158, R159, R161, R163, R165). -/
def storeAt (a : Word) (v : Byte) (s : State) : Exec := (busWrite a v s).done

/-- `A <- MemRead(HL, 1); HL <- HL + k` (R166, R167). -/
def loadAMove (k : Word) (s : State) : Exec :=
  ((busRead s.hl s).bind fun v s => .ok () (setHl (s.hl + k) (setReg8 .a v s))).done

/-- `MemWrite(HL, 1, A); HL <- HL + k` (R168, R169). -/
def storeAMove (k : Word) (s : State) : Exec :=
  ((busWrite s.hl s.regs.a s).bind fun _ s => .ok () (setHl (s.hl + k) s)).done

/-! ## The instructions -/

/-- `LD (BC),A` (R158). -/
def exec_ld_mbc_a (s : State) : Exec := storeAt s.bc s.regs.a s
/-- `LD B,n` (R154). -/
def exec_ld_b_n (n : Byte) (s : State) : Exec := loadImm .b n s
/-- `LD A,(BC)` (R156). -/
def exec_ld_a_mbc (s : State) : Exec := loadFrom .a s.bc s
/-- `LD C,n` (R154). -/
def exec_ld_c_n (n : Byte) (s : State) : Exec := loadImm .c n s
/-- `LD (DE),A` (R159). -/
def exec_ld_mde_a (s : State) : Exec := storeAt s.de s.regs.a s
/-- `LD D,n` (R154). -/
def exec_ld_d_n (n : Byte) (s : State) : Exec := loadImm .d n s
/-- `LD A,(DE)` (R157). -/
def exec_ld_a_mde (s : State) : Exec := loadFrom .a s.de s
/-- `LD E,n` (R154). -/
def exec_ld_e_n (n : Byte) (s : State) : Exec := loadImm .e n s
/-- `LD (HL+),A` (R168). -/
def exec_ld_mhli_a (s : State) : Exec := storeAMove 1 s
/-- `LD H,n` (R154). -/
def exec_ld_h_n (n : Byte) (s : State) : Exec := loadImm .h n s
/-- `LD A,(HL+)` (R166). -/
def exec_ld_a_mhli (s : State) : Exec := loadAMove 1 s
/-- `LD L,n` (R154). -/
def exec_ld_l_n (n : Byte) (s : State) : Exec := loadImm .l n s
/-- `LD (HL-),A` (R169). -/
def exec_ld_mhld_a (s : State) : Exec := storeAMove (-1) s
/-- `LD (HL),n` (R155). -/
def exec_ld_mhl_n (n : Byte) (s : State) : Exec := storeAt s.hl n s
/-- `LD A,(HL-)` (R167). -/
def exec_ld_a_mhld (s : State) : Exec := loadAMove (-1) s
/-- `LD A,n` (R154). -/
def exec_ld_a_n (n : Byte) (s : State) : Exec := loadImm .a n s
/-- `LD B,B` (R151). -/
def exec_ld_b_b (s : State) : Exec := loadReg .b .b s
/-- `LD B,C` (R151). -/
def exec_ld_b_c (s : State) : Exec := loadReg .b .c s
/-- `LD B,D` (R151). -/
def exec_ld_b_d (s : State) : Exec := loadReg .b .d s
/-- `LD B,E` (R151). -/
def exec_ld_b_e (s : State) : Exec := loadReg .b .e s
/-- `LD B,H` (R151). -/
def exec_ld_b_h (s : State) : Exec := loadReg .b .h s
/-- `LD B,L` (R151). -/
def exec_ld_b_l (s : State) : Exec := loadReg .b .l s
/-- `LD B,(HL)` (R152). -/
def exec_ld_b_mhl (s : State) : Exec := loadFrom .b s.hl s
/-- `LD B,A` (R151). -/
def exec_ld_b_a (s : State) : Exec := loadReg .b .a s
/-- `LD C,B` (R151). -/
def exec_ld_c_b (s : State) : Exec := loadReg .c .b s
/-- `LD C,C` (R151). -/
def exec_ld_c_c (s : State) : Exec := loadReg .c .c s
/-- `LD C,D` (R151). -/
def exec_ld_c_d (s : State) : Exec := loadReg .c .d s
/-- `LD C,E` (R151). -/
def exec_ld_c_e (s : State) : Exec := loadReg .c .e s
/-- `LD C,H` (R151). -/
def exec_ld_c_h (s : State) : Exec := loadReg .c .h s
/-- `LD C,L` (R151). -/
def exec_ld_c_l (s : State) : Exec := loadReg .c .l s
/-- `LD C,(HL)` (R152). -/
def exec_ld_c_mhl (s : State) : Exec := loadFrom .c s.hl s
/-- `LD C,A` (R151). -/
def exec_ld_c_a (s : State) : Exec := loadReg .c .a s
/-- `LD D,B` (R151). -/
def exec_ld_d_b (s : State) : Exec := loadReg .d .b s
/-- `LD D,C` (R151). -/
def exec_ld_d_c (s : State) : Exec := loadReg .d .c s
/-- `LD D,D` (R151). -/
def exec_ld_d_d (s : State) : Exec := loadReg .d .d s
/-- `LD D,E` (R151). -/
def exec_ld_d_e (s : State) : Exec := loadReg .d .e s
/-- `LD D,H` (R151). -/
def exec_ld_d_h (s : State) : Exec := loadReg .d .h s
/-- `LD D,L` (R151). -/
def exec_ld_d_l (s : State) : Exec := loadReg .d .l s
/-- `LD D,(HL)` (R152). -/
def exec_ld_d_mhl (s : State) : Exec := loadFrom .d s.hl s
/-- `LD D,A` (R151). -/
def exec_ld_d_a (s : State) : Exec := loadReg .d .a s
/-- `LD E,B` (R151). -/
def exec_ld_e_b (s : State) : Exec := loadReg .e .b s
/-- `LD E,C` (R151). -/
def exec_ld_e_c (s : State) : Exec := loadReg .e .c s
/-- `LD E,D` (R151). -/
def exec_ld_e_d (s : State) : Exec := loadReg .e .d s
/-- `LD E,E` (R151). -/
def exec_ld_e_e (s : State) : Exec := loadReg .e .e s
/-- `LD E,H` (R151). -/
def exec_ld_e_h (s : State) : Exec := loadReg .e .h s
/-- `LD E,L` (R151). -/
def exec_ld_e_l (s : State) : Exec := loadReg .e .l s
/-- `LD E,(HL)` (R152). -/
def exec_ld_e_mhl (s : State) : Exec := loadFrom .e s.hl s
/-- `LD E,A` (R151). -/
def exec_ld_e_a (s : State) : Exec := loadReg .e .a s
/-- `LD H,B` (R151). -/
def exec_ld_h_b (s : State) : Exec := loadReg .h .b s
/-- `LD H,C` (R151). -/
def exec_ld_h_c (s : State) : Exec := loadReg .h .c s
/-- `LD H,D` (R151). -/
def exec_ld_h_d (s : State) : Exec := loadReg .h .d s
/-- `LD H,E` (R151). -/
def exec_ld_h_e (s : State) : Exec := loadReg .h .e s
/-- `LD H,H` (R151). -/
def exec_ld_h_h (s : State) : Exec := loadReg .h .h s
/-- `LD H,L` (R151). -/
def exec_ld_h_l (s : State) : Exec := loadReg .h .l s
/-- `LD H,(HL)` (R152). -/
def exec_ld_h_mhl (s : State) : Exec := loadFrom .h s.hl s
/-- `LD H,A` (R151). -/
def exec_ld_h_a (s : State) : Exec := loadReg .h .a s
/-- `LD L,B` (R151). -/
def exec_ld_l_b (s : State) : Exec := loadReg .l .b s
/-- `LD L,C` (R151). -/
def exec_ld_l_c (s : State) : Exec := loadReg .l .c s
/-- `LD L,D` (R151). -/
def exec_ld_l_d (s : State) : Exec := loadReg .l .d s
/-- `LD L,E` (R151). -/
def exec_ld_l_e (s : State) : Exec := loadReg .l .e s
/-- `LD L,H` (R151). -/
def exec_ld_l_h (s : State) : Exec := loadReg .l .h s
/-- `LD L,L` (R151). -/
def exec_ld_l_l (s : State) : Exec := loadReg .l .l s
/-- `LD L,(HL)` (R152). -/
def exec_ld_l_mhl (s : State) : Exec := loadFrom .l s.hl s
/-- `LD L,A` (R151). -/
def exec_ld_l_a (s : State) : Exec := loadReg .l .a s
/-- `LD (HL),B` (R153). -/
def exec_ld_mhl_b (s : State) : Exec := storeAt s.hl (s.reg8 .b) s
/-- `LD (HL),C` (R153). -/
def exec_ld_mhl_c (s : State) : Exec := storeAt s.hl (s.reg8 .c) s
/-- `LD (HL),D` (R153). -/
def exec_ld_mhl_d (s : State) : Exec := storeAt s.hl (s.reg8 .d) s
/-- `LD (HL),E` (R153). -/
def exec_ld_mhl_e (s : State) : Exec := storeAt s.hl (s.reg8 .e) s
/-- `LD (HL),H` (R153). -/
def exec_ld_mhl_h (s : State) : Exec := storeAt s.hl (s.reg8 .h) s
/-- `LD (HL),L` (R153). -/
def exec_ld_mhl_l (s : State) : Exec := storeAt s.hl (s.reg8 .l) s
/-- `LD (HL),A` (R153). -/
def exec_ld_mhl_a (s : State) : Exec := storeAt s.hl (s.reg8 .a) s
/-- `LD A,B` (R151). -/
def exec_ld_a_b (s : State) : Exec := loadReg .a .b s
/-- `LD A,C` (R151). -/
def exec_ld_a_c (s : State) : Exec := loadReg .a .c s
/-- `LD A,D` (R151). -/
def exec_ld_a_d (s : State) : Exec := loadReg .a .d s
/-- `LD A,E` (R151). -/
def exec_ld_a_e (s : State) : Exec := loadReg .a .e s
/-- `LD A,H` (R151). -/
def exec_ld_a_h (s : State) : Exec := loadReg .a .h s
/-- `LD A,L` (R151). -/
def exec_ld_a_l (s : State) : Exec := loadReg .a .l s
/-- `LD A,(HL)` (R152). -/
def exec_ld_a_mhl (s : State) : Exec := loadFrom .a s.hl s
/-- `LD A,A` (R151). -/
def exec_ld_a_a (s : State) : Exec := loadReg .a .a s
/-- `LDH (n),A` (R163). -/
def exec_ldh_mn_a (n : Byte) (s : State) : Exec := storeAt (highPage n) s.regs.a s
/-- `LDH (C),A` (R165). -/
def exec_ldh_mc_a (s : State) : Exec := storeAt (highPage s.regs.c) s.regs.a s
/-- `LD (nn),A` (R161). -/
def exec_ld_mnn_a (nn : Word) (s : State) : Exec := storeAt nn s.regs.a s
/-- `LDH A,(n)` (R162). -/
def exec_ldh_a_mn (n : Byte) (s : State) : Exec := loadFrom .a (highPage n) s
/-- `LDH A,(C)` (R164). -/
def exec_ldh_a_mc (s : State) : Exec := loadFrom .a (highPage s.regs.c) s
/-- `LD A,(nn)` (R160). -/
def exec_ld_a_mnn (nn : Word) (s : State) : Exec := loadFrom .a nn s

end Sys2Proof.Machine
end

