-- ==== Sys2Proof/Machine/Rotate.lean ====
section
/-! DEFINITION. The four accumulator rotates of the base page (44_rotate_shift_bit.md R251 to R254). -/

namespace Sys2Proof.Machine

/-- `(A, c) <- shift(A); Z N H C = 0 0 0 c` (R250). -/
def rotateA (k : ShiftOp) (s : State) : Exec :=
  let o := shift8 k s.regs.a s.flagC
  .next (setFlags false false false o.2 (setReg8 .a o.1 s))

/-! ## The instructions -/

/-- `RLCA` (R251). -/
def exec_rlca (s : State) : Exec := rotateA .rlc s
/-- `RRCA` (R252). -/
def exec_rrca (s : State) : Exec := rotateA .rrc s
/-- `RLA` (R253). -/
def exec_rla (s : State) : Exec := rotateA .rl s
/-- `RRA` (R254). -/
def exec_rra (s : State) : Exec := rotateA .rr s

end Sys2Proof.Machine
end

