-- ==== Sys2Proof/Machine/Bit.lean ====
section
/-! DEFINITION. Bit test, reset and set (44_rotate_shift_bit.md R271 to R276). -/

namespace Sys2Proof.Machine

/-- `Z N H C = (v[b] = 0) 0 1 -` (R271). -/
def testBit (b : Nat) (v : Byte) (s : State) : State := setFlags (!bitAt v b) false true s.flagC s

/-- `BIT b,r` (R271). -/
def bitReg (b : Nat) (r : Reg8) (s : State) : Exec := .next (testBit b (s.reg8 r) s)

/-- `BIT b,(HL)`: one read and no write (R272). -/
def bitMem (b : Nat) (s : State) : Exec := ((busRead s.hl s).bind fun v s => .ok () (testBit b v s)).done

/-- `RES b,r` (R273). -/
def clearBitReg (b : Nat) (r : Reg8) (s : State) : Exec := .next (setReg8 r (s.reg8 r &&& ~~~bitMask b) s)

/-- `RES b,(HL)` (R274). -/
def clearBitMem (b : Nat) (s : State) : Exec :=
  ((busRead s.hl s).bind fun v s => busWrite s.hl (v &&& ~~~bitMask b) s).done

/-- `SET b,r` (R275). -/
def setBitReg (b : Nat) (r : Reg8) (s : State) : Exec := .next (setReg8 r (s.reg8 r ||| bitMask b) s)

/-- `SET b,(HL)` (R276). -/
def setBitMem (b : Nat) (s : State) : Exec :=
  ((busRead s.hl s).bind fun v s => busWrite s.hl (v ||| bitMask b) s).done

/-! ## The instructions -/

/-- `BIT 0,B` (R271). -/
def exec_bit_0_b (s : State) : Exec := bitReg 0 .b s
/-- `BIT 0,C` (R271). -/
def exec_bit_0_c (s : State) : Exec := bitReg 0 .c s
/-- `BIT 0,D` (R271). -/
def exec_bit_0_d (s : State) : Exec := bitReg 0 .d s
/-- `BIT 0,E` (R271). -/
def exec_bit_0_e (s : State) : Exec := bitReg 0 .e s
/-- `BIT 0,H` (R271). -/
def exec_bit_0_h (s : State) : Exec := bitReg 0 .h s
/-- `BIT 0,L` (R271). -/
def exec_bit_0_l (s : State) : Exec := bitReg 0 .l s
/-- `BIT 0,(HL)` (R272). -/
def exec_bit_0_mhl (s : State) : Exec := bitMem 0 s
/-- `BIT 0,A` (R271). -/
def exec_bit_0_a (s : State) : Exec := bitReg 0 .a s
/-- `BIT 1,B` (R271). -/
def exec_bit_1_b (s : State) : Exec := bitReg 1 .b s
/-- `BIT 1,C` (R271). -/
def exec_bit_1_c (s : State) : Exec := bitReg 1 .c s
/-- `BIT 1,D` (R271). -/
def exec_bit_1_d (s : State) : Exec := bitReg 1 .d s
/-- `BIT 1,E` (R271). -/
def exec_bit_1_e (s : State) : Exec := bitReg 1 .e s
/-- `BIT 1,H` (R271). -/
def exec_bit_1_h (s : State) : Exec := bitReg 1 .h s
/-- `BIT 1,L` (R271). -/
def exec_bit_1_l (s : State) : Exec := bitReg 1 .l s
/-- `BIT 1,(HL)` (R272). -/
def exec_bit_1_mhl (s : State) : Exec := bitMem 1 s
/-- `BIT 1,A` (R271). -/
def exec_bit_1_a (s : State) : Exec := bitReg 1 .a s
/-- `BIT 2,B` (R271). -/
def exec_bit_2_b (s : State) : Exec := bitReg 2 .b s
/-- `BIT 2,C` (R271). -/
def exec_bit_2_c (s : State) : Exec := bitReg 2 .c s
/-- `BIT 2,D` (R271). -/
def exec_bit_2_d (s : State) : Exec := bitReg 2 .d s
/-- `BIT 2,E` (R271). -/
def exec_bit_2_e (s : State) : Exec := bitReg 2 .e s
/-- `BIT 2,H` (R271). -/
def exec_bit_2_h (s : State) : Exec := bitReg 2 .h s
/-- `BIT 2,L` (R271). -/
def exec_bit_2_l (s : State) : Exec := bitReg 2 .l s
/-- `BIT 2,(HL)` (R272). -/
def exec_bit_2_mhl (s : State) : Exec := bitMem 2 s
/-- `BIT 2,A` (R271). -/
def exec_bit_2_a (s : State) : Exec := bitReg 2 .a s
/-- `BIT 3,B` (R271). -/
def exec_bit_3_b (s : State) : Exec := bitReg 3 .b s
/-- `BIT 3,C` (R271). -/
def exec_bit_3_c (s : State) : Exec := bitReg 3 .c s
/-- `BIT 3,D` (R271). -/
def exec_bit_3_d (s : State) : Exec := bitReg 3 .d s
/-- `BIT 3,E` (R271). -/
def exec_bit_3_e (s : State) : Exec := bitReg 3 .e s
/-- `BIT 3,H` (R271). -/
def exec_bit_3_h (s : State) : Exec := bitReg 3 .h s
/-- `BIT 3,L` (R271). -/
def exec_bit_3_l (s : State) : Exec := bitReg 3 .l s
/-- `BIT 3,(HL)` (R272). -/
def exec_bit_3_mhl (s : State) : Exec := bitMem 3 s
/-- `BIT 3,A` (R271). -/
def exec_bit_3_a (s : State) : Exec := bitReg 3 .a s
/-- `BIT 4,B` (R271). -/
def exec_bit_4_b (s : State) : Exec := bitReg 4 .b s
/-- `BIT 4,C` (R271). -/
def exec_bit_4_c (s : State) : Exec := bitReg 4 .c s
/-- `BIT 4,D` (R271). -/
def exec_bit_4_d (s : State) : Exec := bitReg 4 .d s
/-- `BIT 4,E` (R271). -/
def exec_bit_4_e (s : State) : Exec := bitReg 4 .e s
/-- `BIT 4,H` (R271). -/
def exec_bit_4_h (s : State) : Exec := bitReg 4 .h s
/-- `BIT 4,L` (R271). -/
def exec_bit_4_l (s : State) : Exec := bitReg 4 .l s
/-- `BIT 4,(HL)` (R272). -/
def exec_bit_4_mhl (s : State) : Exec := bitMem 4 s
/-- `BIT 4,A` (R271). -/
def exec_bit_4_a (s : State) : Exec := bitReg 4 .a s
/-- `BIT 5,B` (R271). -/
def exec_bit_5_b (s : State) : Exec := bitReg 5 .b s
/-- `BIT 5,C` (R271). -/
def exec_bit_5_c (s : State) : Exec := bitReg 5 .c s
/-- `BIT 5,D` (R271). -/
def exec_bit_5_d (s : State) : Exec := bitReg 5 .d s
/-- `BIT 5,E` (R271). -/
def exec_bit_5_e (s : State) : Exec := bitReg 5 .e s
/-- `BIT 5,H` (R271). -/
def exec_bit_5_h (s : State) : Exec := bitReg 5 .h s
/-- `BIT 5,L` (R271). -/
def exec_bit_5_l (s : State) : Exec := bitReg 5 .l s
/-- `BIT 5,(HL)` (R272). -/
def exec_bit_5_mhl (s : State) : Exec := bitMem 5 s
/-- `BIT 5,A` (R271). -/
def exec_bit_5_a (s : State) : Exec := bitReg 5 .a s
/-- `BIT 6,B` (R271). -/
def exec_bit_6_b (s : State) : Exec := bitReg 6 .b s
/-- `BIT 6,C` (R271). -/
def exec_bit_6_c (s : State) : Exec := bitReg 6 .c s
/-- `BIT 6,D` (R271). -/
def exec_bit_6_d (s : State) : Exec := bitReg 6 .d s
/-- `BIT 6,E` (R271). -/
def exec_bit_6_e (s : State) : Exec := bitReg 6 .e s
/-- `BIT 6,H` (R271). -/
def exec_bit_6_h (s : State) : Exec := bitReg 6 .h s
/-- `BIT 6,L` (R271). -/
def exec_bit_6_l (s : State) : Exec := bitReg 6 .l s
/-- `BIT 6,(HL)` (R272). -/
def exec_bit_6_mhl (s : State) : Exec := bitMem 6 s
/-- `BIT 6,A` (R271). -/
def exec_bit_6_a (s : State) : Exec := bitReg 6 .a s
/-- `BIT 7,B` (R271). -/
def exec_bit_7_b (s : State) : Exec := bitReg 7 .b s
/-- `BIT 7,C` (R271). -/
def exec_bit_7_c (s : State) : Exec := bitReg 7 .c s
/-- `BIT 7,D` (R271). -/
def exec_bit_7_d (s : State) : Exec := bitReg 7 .d s
/-- `BIT 7,E` (R271). -/
def exec_bit_7_e (s : State) : Exec := bitReg 7 .e s
/-- `BIT 7,H` (R271). -/
def exec_bit_7_h (s : State) : Exec := bitReg 7 .h s
/-- `BIT 7,L` (R271). -/
def exec_bit_7_l (s : State) : Exec := bitReg 7 .l s
/-- `BIT 7,(HL)` (R272). -/
def exec_bit_7_mhl (s : State) : Exec := bitMem 7 s
/-- `BIT 7,A` (R271). -/
def exec_bit_7_a (s : State) : Exec := bitReg 7 .a s
/-- `RES 0,B` (R273). -/
def exec_res_0_b (s : State) : Exec := clearBitReg 0 .b s
/-- `RES 0,C` (R273). -/
def exec_res_0_c (s : State) : Exec := clearBitReg 0 .c s
/-- `RES 0,D` (R273). -/
def exec_res_0_d (s : State) : Exec := clearBitReg 0 .d s
/-- `RES 0,E` (R273). -/
def exec_res_0_e (s : State) : Exec := clearBitReg 0 .e s
/-- `RES 0,H` (R273). -/
def exec_res_0_h (s : State) : Exec := clearBitReg 0 .h s
/-- `RES 0,L` (R273). -/
def exec_res_0_l (s : State) : Exec := clearBitReg 0 .l s
/-- `RES 0,(HL)` (R274). -/
def exec_res_0_mhl (s : State) : Exec := clearBitMem 0 s
/-- `RES 0,A` (R273). -/
def exec_res_0_a (s : State) : Exec := clearBitReg 0 .a s
/-- `RES 1,B` (R273). -/
def exec_res_1_b (s : State) : Exec := clearBitReg 1 .b s
/-- `RES 1,C` (R273). -/
def exec_res_1_c (s : State) : Exec := clearBitReg 1 .c s
/-- `RES 1,D` (R273). -/
def exec_res_1_d (s : State) : Exec := clearBitReg 1 .d s
/-- `RES 1,E` (R273). -/
def exec_res_1_e (s : State) : Exec := clearBitReg 1 .e s
/-- `RES 1,H` (R273). -/
def exec_res_1_h (s : State) : Exec := clearBitReg 1 .h s
/-- `RES 1,L` (R273). -/
def exec_res_1_l (s : State) : Exec := clearBitReg 1 .l s
/-- `RES 1,(HL)` (R274). -/
def exec_res_1_mhl (s : State) : Exec := clearBitMem 1 s
/-- `RES 1,A` (R273). -/
def exec_res_1_a (s : State) : Exec := clearBitReg 1 .a s
/-- `RES 2,B` (R273). -/
def exec_res_2_b (s : State) : Exec := clearBitReg 2 .b s
/-- `RES 2,C` (R273). -/
def exec_res_2_c (s : State) : Exec := clearBitReg 2 .c s
/-- `RES 2,D` (R273). -/
def exec_res_2_d (s : State) : Exec := clearBitReg 2 .d s
/-- `RES 2,E` (R273). -/
def exec_res_2_e (s : State) : Exec := clearBitReg 2 .e s
/-- `RES 2,H` (R273). -/
def exec_res_2_h (s : State) : Exec := clearBitReg 2 .h s
/-- `RES 2,L` (R273). -/
def exec_res_2_l (s : State) : Exec := clearBitReg 2 .l s
/-- `RES 2,(HL)` (R274). -/
def exec_res_2_mhl (s : State) : Exec := clearBitMem 2 s
/-- `RES 2,A` (R273). -/
def exec_res_2_a (s : State) : Exec := clearBitReg 2 .a s
/-- `RES 3,B` (R273). -/
def exec_res_3_b (s : State) : Exec := clearBitReg 3 .b s
/-- `RES 3,C` (R273). -/
def exec_res_3_c (s : State) : Exec := clearBitReg 3 .c s
/-- `RES 3,D` (R273). -/
def exec_res_3_d (s : State) : Exec := clearBitReg 3 .d s
/-- `RES 3,E` (R273). -/
def exec_res_3_e (s : State) : Exec := clearBitReg 3 .e s
/-- `RES 3,H` (R273). -/
def exec_res_3_h (s : State) : Exec := clearBitReg 3 .h s
/-- `RES 3,L` (R273). -/
def exec_res_3_l (s : State) : Exec := clearBitReg 3 .l s
/-- `RES 3,(HL)` (R274). -/
def exec_res_3_mhl (s : State) : Exec := clearBitMem 3 s
/-- `RES 3,A` (R273). -/
def exec_res_3_a (s : State) : Exec := clearBitReg 3 .a s
/-- `RES 4,B` (R273). -/
def exec_res_4_b (s : State) : Exec := clearBitReg 4 .b s
/-- `RES 4,C` (R273). -/
def exec_res_4_c (s : State) : Exec := clearBitReg 4 .c s
/-- `RES 4,D` (R273). -/
def exec_res_4_d (s : State) : Exec := clearBitReg 4 .d s
/-- `RES 4,E` (R273). -/
def exec_res_4_e (s : State) : Exec := clearBitReg 4 .e s
/-- `RES 4,H` (R273). -/
def exec_res_4_h (s : State) : Exec := clearBitReg 4 .h s
/-- `RES 4,L` (R273). -/
def exec_res_4_l (s : State) : Exec := clearBitReg 4 .l s
/-- `RES 4,(HL)` (R274). -/
def exec_res_4_mhl (s : State) : Exec := clearBitMem 4 s
/-- `RES 4,A` (R273). -/
def exec_res_4_a (s : State) : Exec := clearBitReg 4 .a s
/-- `RES 5,B` (R273). -/
def exec_res_5_b (s : State) : Exec := clearBitReg 5 .b s
/-- `RES 5,C` (R273). -/
def exec_res_5_c (s : State) : Exec := clearBitReg 5 .c s
/-- `RES 5,D` (R273). -/
def exec_res_5_d (s : State) : Exec := clearBitReg 5 .d s
/-- `RES 5,E` (R273). -/
def exec_res_5_e (s : State) : Exec := clearBitReg 5 .e s
/-- `RES 5,H` (R273). -/
def exec_res_5_h (s : State) : Exec := clearBitReg 5 .h s
/-- `RES 5,L` (R273). -/
def exec_res_5_l (s : State) : Exec := clearBitReg 5 .l s
/-- `RES 5,(HL)` (R274). -/
def exec_res_5_mhl (s : State) : Exec := clearBitMem 5 s
/-- `RES 5,A` (R273). -/
def exec_res_5_a (s : State) : Exec := clearBitReg 5 .a s
/-- `RES 6,B` (R273). -/
def exec_res_6_b (s : State) : Exec := clearBitReg 6 .b s
/-- `RES 6,C` (R273). -/
def exec_res_6_c (s : State) : Exec := clearBitReg 6 .c s
/-- `RES 6,D` (R273). -/
def exec_res_6_d (s : State) : Exec := clearBitReg 6 .d s
/-- `RES 6,E` (R273). -/
def exec_res_6_e (s : State) : Exec := clearBitReg 6 .e s
/-- `RES 6,H` (R273). -/
def exec_res_6_h (s : State) : Exec := clearBitReg 6 .h s
/-- `RES 6,L` (R273). -/
def exec_res_6_l (s : State) : Exec := clearBitReg 6 .l s
/-- `RES 6,(HL)` (R274). -/
def exec_res_6_mhl (s : State) : Exec := clearBitMem 6 s
/-- `RES 6,A` (R273). -/
def exec_res_6_a (s : State) : Exec := clearBitReg 6 .a s
/-- `RES 7,B` (R273). -/
def exec_res_7_b (s : State) : Exec := clearBitReg 7 .b s
/-- `RES 7,C` (R273). -/
def exec_res_7_c (s : State) : Exec := clearBitReg 7 .c s
/-- `RES 7,D` (R273). -/
def exec_res_7_d (s : State) : Exec := clearBitReg 7 .d s
/-- `RES 7,E` (R273). -/
def exec_res_7_e (s : State) : Exec := clearBitReg 7 .e s
/-- `RES 7,H` (R273). -/
def exec_res_7_h (s : State) : Exec := clearBitReg 7 .h s
/-- `RES 7,L` (R273). -/
def exec_res_7_l (s : State) : Exec := clearBitReg 7 .l s
/-- `RES 7,(HL)` (R274). -/
def exec_res_7_mhl (s : State) : Exec := clearBitMem 7 s
/-- `RES 7,A` (R273). -/
def exec_res_7_a (s : State) : Exec := clearBitReg 7 .a s
/-- `SET 0,B` (R275). -/
def exec_set_0_b (s : State) : Exec := setBitReg 0 .b s
/-- `SET 0,C` (R275). -/
def exec_set_0_c (s : State) : Exec := setBitReg 0 .c s
/-- `SET 0,D` (R275). -/
def exec_set_0_d (s : State) : Exec := setBitReg 0 .d s
/-- `SET 0,E` (R275). -/
def exec_set_0_e (s : State) : Exec := setBitReg 0 .e s
/-- `SET 0,H` (R275). -/
def exec_set_0_h (s : State) : Exec := setBitReg 0 .h s
/-- `SET 0,L` (R275). -/
def exec_set_0_l (s : State) : Exec := setBitReg 0 .l s
/-- `SET 0,(HL)` (R276). -/
def exec_set_0_mhl (s : State) : Exec := setBitMem 0 s
/-- `SET 0,A` (R275). -/
def exec_set_0_a (s : State) : Exec := setBitReg 0 .a s
/-- `SET 1,B` (R275). -/
def exec_set_1_b (s : State) : Exec := setBitReg 1 .b s
/-- `SET 1,C` (R275). -/
def exec_set_1_c (s : State) : Exec := setBitReg 1 .c s
/-- `SET 1,D` (R275). -/
def exec_set_1_d (s : State) : Exec := setBitReg 1 .d s
/-- `SET 1,E` (R275). -/
def exec_set_1_e (s : State) : Exec := setBitReg 1 .e s
/-- `SET 1,H` (R275). -/
def exec_set_1_h (s : State) : Exec := setBitReg 1 .h s
/-- `SET 1,L` (R275). -/
def exec_set_1_l (s : State) : Exec := setBitReg 1 .l s
/-- `SET 1,(HL)` (R276). -/
def exec_set_1_mhl (s : State) : Exec := setBitMem 1 s
/-- `SET 1,A` (R275). -/
def exec_set_1_a (s : State) : Exec := setBitReg 1 .a s
/-- `SET 2,B` (R275). -/
def exec_set_2_b (s : State) : Exec := setBitReg 2 .b s
/-- `SET 2,C` (R275). -/
def exec_set_2_c (s : State) : Exec := setBitReg 2 .c s
/-- `SET 2,D` (R275). -/
def exec_set_2_d (s : State) : Exec := setBitReg 2 .d s
/-- `SET 2,E` (R275). -/
def exec_set_2_e (s : State) : Exec := setBitReg 2 .e s
/-- `SET 2,H` (R275). -/
def exec_set_2_h (s : State) : Exec := setBitReg 2 .h s
/-- `SET 2,L` (R275). -/
def exec_set_2_l (s : State) : Exec := setBitReg 2 .l s
/-- `SET 2,(HL)` (R276). -/
def exec_set_2_mhl (s : State) : Exec := setBitMem 2 s
/-- `SET 2,A` (R275). -/
def exec_set_2_a (s : State) : Exec := setBitReg 2 .a s
/-- `SET 3,B` (R275). -/
def exec_set_3_b (s : State) : Exec := setBitReg 3 .b s
/-- `SET 3,C` (R275). -/
def exec_set_3_c (s : State) : Exec := setBitReg 3 .c s
/-- `SET 3,D` (R275). -/
def exec_set_3_d (s : State) : Exec := setBitReg 3 .d s
/-- `SET 3,E` (R275). -/
def exec_set_3_e (s : State) : Exec := setBitReg 3 .e s
/-- `SET 3,H` (R275). -/
def exec_set_3_h (s : State) : Exec := setBitReg 3 .h s
/-- `SET 3,L` (R275). -/
def exec_set_3_l (s : State) : Exec := setBitReg 3 .l s
/-- `SET 3,(HL)` (R276). -/
def exec_set_3_mhl (s : State) : Exec := setBitMem 3 s
/-- `SET 3,A` (R275). -/
def exec_set_3_a (s : State) : Exec := setBitReg 3 .a s
/-- `SET 4,B` (R275). -/
def exec_set_4_b (s : State) : Exec := setBitReg 4 .b s
/-- `SET 4,C` (R275). -/
def exec_set_4_c (s : State) : Exec := setBitReg 4 .c s
/-- `SET 4,D` (R275). -/
def exec_set_4_d (s : State) : Exec := setBitReg 4 .d s
/-- `SET 4,E` (R275). -/
def exec_set_4_e (s : State) : Exec := setBitReg 4 .e s
/-- `SET 4,H` (R275). -/
def exec_set_4_h (s : State) : Exec := setBitReg 4 .h s
/-- `SET 4,L` (R275). -/
def exec_set_4_l (s : State) : Exec := setBitReg 4 .l s
/-- `SET 4,(HL)` (R276). -/
def exec_set_4_mhl (s : State) : Exec := setBitMem 4 s
/-- `SET 4,A` (R275). -/
def exec_set_4_a (s : State) : Exec := setBitReg 4 .a s
/-- `SET 5,B` (R275). -/
def exec_set_5_b (s : State) : Exec := setBitReg 5 .b s
/-- `SET 5,C` (R275). -/
def exec_set_5_c (s : State) : Exec := setBitReg 5 .c s
/-- `SET 5,D` (R275). -/
def exec_set_5_d (s : State) : Exec := setBitReg 5 .d s
/-- `SET 5,E` (R275). -/
def exec_set_5_e (s : State) : Exec := setBitReg 5 .e s
/-- `SET 5,H` (R275). -/
def exec_set_5_h (s : State) : Exec := setBitReg 5 .h s
/-- `SET 5,L` (R275). -/
def exec_set_5_l (s : State) : Exec := setBitReg 5 .l s
/-- `SET 5,(HL)` (R276). -/
def exec_set_5_mhl (s : State) : Exec := setBitMem 5 s
/-- `SET 5,A` (R275). -/
def exec_set_5_a (s : State) : Exec := setBitReg 5 .a s
/-- `SET 6,B` (R275). -/
def exec_set_6_b (s : State) : Exec := setBitReg 6 .b s
/-- `SET 6,C` (R275). -/
def exec_set_6_c (s : State) : Exec := setBitReg 6 .c s
/-- `SET 6,D` (R275). -/
def exec_set_6_d (s : State) : Exec := setBitReg 6 .d s
/-- `SET 6,E` (R275). -/
def exec_set_6_e (s : State) : Exec := setBitReg 6 .e s
/-- `SET 6,H` (R275). -/
def exec_set_6_h (s : State) : Exec := setBitReg 6 .h s
/-- `SET 6,L` (R275). -/
def exec_set_6_l (s : State) : Exec := setBitReg 6 .l s
/-- `SET 6,(HL)` (R276). -/
def exec_set_6_mhl (s : State) : Exec := setBitMem 6 s
/-- `SET 6,A` (R275). -/
def exec_set_6_a (s : State) : Exec := setBitReg 6 .a s
/-- `SET 7,B` (R275). -/
def exec_set_7_b (s : State) : Exec := setBitReg 7 .b s
/-- `SET 7,C` (R275). -/
def exec_set_7_c (s : State) : Exec := setBitReg 7 .c s
/-- `SET 7,D` (R275). -/
def exec_set_7_d (s : State) : Exec := setBitReg 7 .d s
/-- `SET 7,E` (R275). -/
def exec_set_7_e (s : State) : Exec := setBitReg 7 .e s
/-- `SET 7,H` (R275). -/
def exec_set_7_h (s : State) : Exec := setBitReg 7 .h s
/-- `SET 7,L` (R275). -/
def exec_set_7_l (s : State) : Exec := setBitReg 7 .l s
/-- `SET 7,(HL)` (R276). -/
def exec_set_7_mhl (s : State) : Exec := setBitMem 7 s
/-- `SET 7,A` (R275). -/
def exec_set_7_a (s : State) : Exec := setBitReg 7 .a s

end Sys2Proof.Machine
end

