-- ==== Sys2Proof/Machine/Shift.lean ====
section
/-! DEFINITION. The rotates and shifts of the CB page (44_rotate_shift_bit.md R255 to R270). -/

namespace Sys2Proof.Machine

/-- `(r8[r], c) <- shift(r8[r]); Z N H C = (res = 0) 0 0 c` (R250). -/
def shiftRegS (k : ShiftOp) (r : Reg8) (s : State) : State :=
  let o := shift8 k (s.reg8 r) s.flagC
  setFlags (o.1 == 0#8) false false o.2 (setReg8 r o.1 s)

/-- The form with a register. -/
def shiftReg (k : ShiftOp) (r : Reg8) (s : State) : Exec := .next (shiftRegS k r s)

/-- The form with `(HL)`: one read, then one write of the same address, then the flags (R256). -/
def shiftMem (k : ShiftOp) (s : State) : Exec :=
  ((busRead s.hl s).bind fun b s =>
    let o := shift8 k b s.flagC
    (busWrite s.hl o.1 s).bind fun _ s => .ok () (setFlags (o.1 == 0#8) false false o.2 s)).done

/-! ## The instructions -/

/-- `RLC B` (R255). -/
def exec_rlc_b (s : State) : Exec := shiftReg .rlc .b s
/-- `RLC C` (R255). -/
def exec_rlc_c (s : State) : Exec := shiftReg .rlc .c s
/-- `RLC D` (R255). -/
def exec_rlc_d (s : State) : Exec := shiftReg .rlc .d s
/-- `RLC E` (R255). -/
def exec_rlc_e (s : State) : Exec := shiftReg .rlc .e s
/-- `RLC H` (R255). -/
def exec_rlc_h (s : State) : Exec := shiftReg .rlc .h s
/-- `RLC L` (R255). -/
def exec_rlc_l (s : State) : Exec := shiftReg .rlc .l s
/-- `RLC (HL)` (R256). -/
def exec_rlc_mhl (s : State) : Exec := shiftMem .rlc s
/-- `RLC A` (R255). -/
def exec_rlc_a (s : State) : Exec := shiftReg .rlc .a s
/-- `RRC B` (R257). -/
def exec_rrc_b (s : State) : Exec := shiftReg .rrc .b s
/-- `RRC C` (R257). -/
def exec_rrc_c (s : State) : Exec := shiftReg .rrc .c s
/-- `RRC D` (R257). -/
def exec_rrc_d (s : State) : Exec := shiftReg .rrc .d s
/-- `RRC E` (R257). -/
def exec_rrc_e (s : State) : Exec := shiftReg .rrc .e s
/-- `RRC H` (R257). -/
def exec_rrc_h (s : State) : Exec := shiftReg .rrc .h s
/-- `RRC L` (R257). -/
def exec_rrc_l (s : State) : Exec := shiftReg .rrc .l s
/-- `RRC (HL)` (R258). -/
def exec_rrc_mhl (s : State) : Exec := shiftMem .rrc s
/-- `RRC A` (R257). -/
def exec_rrc_a (s : State) : Exec := shiftReg .rrc .a s
/-- `RL B` (R259). -/
def exec_rl_b (s : State) : Exec := shiftReg .rl .b s
/-- `RL C` (R259). -/
def exec_rl_c (s : State) : Exec := shiftReg .rl .c s
/-- `RL D` (R259). -/
def exec_rl_d (s : State) : Exec := shiftReg .rl .d s
/-- `RL E` (R259). -/
def exec_rl_e (s : State) : Exec := shiftReg .rl .e s
/-- `RL H` (R259). -/
def exec_rl_h (s : State) : Exec := shiftReg .rl .h s
/-- `RL L` (R259). -/
def exec_rl_l (s : State) : Exec := shiftReg .rl .l s
/-- `RL (HL)` (R260). -/
def exec_rl_mhl (s : State) : Exec := shiftMem .rl s
/-- `RL A` (R259). -/
def exec_rl_a (s : State) : Exec := shiftReg .rl .a s
/-- `RR B` (R261). -/
def exec_rr_b (s : State) : Exec := shiftReg .rr .b s
/-- `RR C` (R261). -/
def exec_rr_c (s : State) : Exec := shiftReg .rr .c s
/-- `RR D` (R261). -/
def exec_rr_d (s : State) : Exec := shiftReg .rr .d s
/-- `RR E` (R261). -/
def exec_rr_e (s : State) : Exec := shiftReg .rr .e s
/-- `RR H` (R261). -/
def exec_rr_h (s : State) : Exec := shiftReg .rr .h s
/-- `RR L` (R261). -/
def exec_rr_l (s : State) : Exec := shiftReg .rr .l s
/-- `RR (HL)` (R262). -/
def exec_rr_mhl (s : State) : Exec := shiftMem .rr s
/-- `RR A` (R261). -/
def exec_rr_a (s : State) : Exec := shiftReg .rr .a s
/-- `SLA B` (R263). -/
def exec_sla_b (s : State) : Exec := shiftReg .sla .b s
/-- `SLA C` (R263). -/
def exec_sla_c (s : State) : Exec := shiftReg .sla .c s
/-- `SLA D` (R263). -/
def exec_sla_d (s : State) : Exec := shiftReg .sla .d s
/-- `SLA E` (R263). -/
def exec_sla_e (s : State) : Exec := shiftReg .sla .e s
/-- `SLA H` (R263). -/
def exec_sla_h (s : State) : Exec := shiftReg .sla .h s
/-- `SLA L` (R263). -/
def exec_sla_l (s : State) : Exec := shiftReg .sla .l s
/-- `SLA (HL)` (R264). -/
def exec_sla_mhl (s : State) : Exec := shiftMem .sla s
/-- `SLA A` (R263). -/
def exec_sla_a (s : State) : Exec := shiftReg .sla .a s
/-- `SRA B` (R265). -/
def exec_sra_b (s : State) : Exec := shiftReg .sra .b s
/-- `SRA C` (R265). -/
def exec_sra_c (s : State) : Exec := shiftReg .sra .c s
/-- `SRA D` (R265). -/
def exec_sra_d (s : State) : Exec := shiftReg .sra .d s
/-- `SRA E` (R265). -/
def exec_sra_e (s : State) : Exec := shiftReg .sra .e s
/-- `SRA H` (R265). -/
def exec_sra_h (s : State) : Exec := shiftReg .sra .h s
/-- `SRA L` (R265). -/
def exec_sra_l (s : State) : Exec := shiftReg .sra .l s
/-- `SRA (HL)` (R266). -/
def exec_sra_mhl (s : State) : Exec := shiftMem .sra s
/-- `SRA A` (R265). -/
def exec_sra_a (s : State) : Exec := shiftReg .sra .a s
/-- `SWAP B` (R267). -/
def exec_swap_b (s : State) : Exec := shiftReg .swap .b s
/-- `SWAP C` (R267). -/
def exec_swap_c (s : State) : Exec := shiftReg .swap .c s
/-- `SWAP D` (R267). -/
def exec_swap_d (s : State) : Exec := shiftReg .swap .d s
/-- `SWAP E` (R267). -/
def exec_swap_e (s : State) : Exec := shiftReg .swap .e s
/-- `SWAP H` (R267). -/
def exec_swap_h (s : State) : Exec := shiftReg .swap .h s
/-- `SWAP L` (R267). -/
def exec_swap_l (s : State) : Exec := shiftReg .swap .l s
/-- `SWAP (HL)` (R268). -/
def exec_swap_mhl (s : State) : Exec := shiftMem .swap s
/-- `SWAP A` (R267). -/
def exec_swap_a (s : State) : Exec := shiftReg .swap .a s
/-- `SRL B` (R269). -/
def exec_srl_b (s : State) : Exec := shiftReg .srl .b s
/-- `SRL C` (R269). -/
def exec_srl_c (s : State) : Exec := shiftReg .srl .c s
/-- `SRL D` (R269). -/
def exec_srl_d (s : State) : Exec := shiftReg .srl .d s
/-- `SRL E` (R269). -/
def exec_srl_e (s : State) : Exec := shiftReg .srl .e s
/-- `SRL H` (R269). -/
def exec_srl_h (s : State) : Exec := shiftReg .srl .h s
/-- `SRL L` (R269). -/
def exec_srl_l (s : State) : Exec := shiftReg .srl .l s
/-- `SRL (HL)` (R270). -/
def exec_srl_mhl (s : State) : Exec := shiftMem .srl s
/-- `SRL A` (R269). -/
def exec_srl_a (s : State) : Exec := shiftReg .srl .a s

end Sys2Proof.Machine
end

