-- ==== Sys2Proof/Machine/System.lean ====
section
/-! DEFINITION. System instructions, the prefix byte and the unknown opcodes (46_system.md). -/

namespace Sys2Proof.Machine

/-- `NOP`: the fetch has advanced `PC` (R300). -/
def nopOp (s : State) : Exec := .next s

/-- `halted <- 1` (R301). -/
def haltOp (s : State) : Exec := .next { s with irq.halted := true }

/-- `raise StopUnmodelled(pc)`: the instruction takes the fault, the byte after it fetched and ignored (R302, R323; log 5, 19). -/
def stopOp (s : State) : Exec := .next (raiseFault (.stopUnmodelled 0x10#8) s)

/-- `IME <- 0; ime_pending <- 0` (R303). -/
def disableInt (s : State) : Exec := .next { s with irq.ime := false, irq.imePending := false }

/-- `ime_pending <- 1` (R304). -/
def enableInt (s : State) : Exec := .next { s with irq.imePending := true }

/-- `raise IllegalOpcode(pc, opcode)`: the instruction takes the fault (R306, R321). -/
def illegalOp (op : Byte) (s : State) : Exec := .next (raiseFault (.illegalOpcode op) s)

/-- What the prefix does: it executes the CB-page instruction that byte 1's fields `x`, `y`, `z` select (R305;
30_encoding.md R122, R131). -/
def cbPage (b : Byte) (s : State) : Exec :=
  let y := b.extractLsb' 3 3
  match (b.extractLsb' 6 2).toNat, reg8Field (b.extractLsb' 0 3) with
  | 0, some r => shiftReg (shiftField y) r s
  | 0, none => shiftMem (shiftField y) s
  | 1, some r => bitReg y.toNat r s
  | 1, none => bitMem y.toNat s
  | 2, some r => clearBitReg y.toNat r s
  | 2, none => clearBitMem y.toNat s
  | _, some r => setBitReg y.toNat r s
  | _, none => setBitMem y.toNat s

/-! ## The instructions -/

/-- `NOP` (R300). -/
def exec_nop (s : State) : Exec := nopOp s
/-- `STOP` (R302). -/
def exec_stop (_n : Byte) (s : State) : Exec := stopOp s
/-- `HALT` (R301). -/
def exec_halt (s : State) : Exec := haltOp s
/-- `PREFIX CB` (R305). -/
def exec_prefixCb (b : Byte) (s : State) : Exec := cbPage b s
/-- `Unknown opcode 0xD3` (R306). -/
def exec_illegal_d3 (s : State) : Exec := illegalOp 0xD3#8 s
/-- `Unknown opcode 0xDB` (R306). -/
def exec_illegal_db (s : State) : Exec := illegalOp 0xDB#8 s
/-- `Unknown opcode 0xDD` (R306). -/
def exec_illegal_dd (s : State) : Exec := illegalOp 0xDD#8 s
/-- `Unknown opcode 0xE3` (R306). -/
def exec_illegal_e3 (s : State) : Exec := illegalOp 0xE3#8 s
/-- `Unknown opcode 0xE4` (R306). -/
def exec_illegal_e4 (s : State) : Exec := illegalOp 0xE4#8 s
/-- `Unknown opcode 0xEB` (R306). -/
def exec_illegal_eb (s : State) : Exec := illegalOp 0xEB#8 s
/-- `Unknown opcode 0xEC` (R306). -/
def exec_illegal_ec (s : State) : Exec := illegalOp 0xEC#8 s
/-- `Unknown opcode 0xED` (R306). -/
def exec_illegal_ed (s : State) : Exec := illegalOp 0xED#8 s
/-- `DI` (R303). -/
def exec_di (s : State) : Exec := disableInt s
/-- `Unknown opcode 0xF4` (R306). -/
def exec_illegal_f4 (s : State) : Exec := illegalOp 0xF4#8 s
/-- `EI` (R304). -/
def exec_ei (s : State) : Exec := enableInt s
/-- `Unknown opcode 0xFC` (R306). -/
def exec_illegal_fc (s : State) : Exec := illegalOp 0xFC#8 s
/-- `Unknown opcode 0xFD` (R306). -/
def exec_illegal_fd (s : State) : Exec := illegalOp 0xFD#8 s

end Sys2Proof.Machine
end

