-- ==== Sys2Proof/Syntax.lean ====
section
/-! DEFINITION. The instructions: one constructor per row of spec/opcode_table.json (30_encoding.md R130, R131). In a
constructor's name `mhl` is `(HL)`, `mhli` `(HL+)`, `mhld` `(HL-)`, `mn` `(n)`, `mc` `(C)`, `mnn` `(nn)`; `n` is an
unsigned byte, `e` a signed one, `nn` a 16-bit immediate (R129). The rows with an operand stand first: Lean's compiled
code allows a constructor with fields only among the first 244. -/

namespace Sys2Proof

inductive Instr where
  /-- `LD BC,nn` -/
  | ld_bc_nn (nn : Word)
  /-- `LD B,n` -/
  | ld_b_n (n : Byte)
  /-- `LD (nn),SP` -/
  | ld_mnn_sp (nn : Word)
  /-- `LD C,n` -/
  | ld_c_n (n : Byte)
  /-- `STOP` (byte 1 is fetched and ignored) -/
  | stop (n : Byte)
  /-- `LD DE,nn` -/
  | ld_de_nn (nn : Word)
  /-- `LD D,n` -/
  | ld_d_n (n : Byte)
  /-- `JR e` -/
  | jr_e (e : Byte)
  /-- `LD E,n` -/
  | ld_e_n (n : Byte)
  /-- `JR NZ,e` -/
  | jr_nz_e (e : Byte)
  /-- `LD HL,nn` -/
  | ld_hl_nn (nn : Word)
  /-- `LD H,n` -/
  | ld_h_n (n : Byte)
  /-- `JR Z,e` -/
  | jr_z_e (e : Byte)
  /-- `LD L,n` -/
  | ld_l_n (n : Byte)
  /-- `JR NC,e` -/
  | jr_nc_e (e : Byte)
  /-- `LD SP,nn` -/
  | ld_sp_nn (nn : Word)
  /-- `LD (HL),n` -/
  | ld_mhl_n (n : Byte)
  /-- `JR C,e` -/
  | jr_c_e (e : Byte)
  /-- `LD A,n` -/
  | ld_a_n (n : Byte)
  /-- `JP NZ,nn` -/
  | jp_nz_nn (nn : Word)
  /-- `JP nn` -/
  | jp_nn (nn : Word)
  /-- `CALL NZ,nn` -/
  | call_nz_nn (nn : Word)
  /-- `ADD A,n` -/
  | add_a_n (n : Byte)
  /-- `JP Z,nn` -/
  | jp_z_nn (nn : Word)
  /-- `PREFIX CB` and its byte 1 (R305: not an instruction by itself) -/
  | prefixCb (b : Byte)
  /-- `CALL Z,nn` -/
  | call_z_nn (nn : Word)
  /-- `CALL nn` -/
  | call_nn (nn : Word)
  /-- `ADC A,n` -/
  | adc_a_n (n : Byte)
  /-- `JP NC,nn` -/
  | jp_nc_nn (nn : Word)
  /-- `CALL NC,nn` -/
  | call_nc_nn (nn : Word)
  /-- `SUB n` -/
  | sub_n (n : Byte)
  /-- `JP C,nn` -/
  | jp_c_nn (nn : Word)
  /-- `CALL C,nn` -/
  | call_c_nn (nn : Word)
  /-- `SBC A,n` -/
  | sbc_a_n (n : Byte)
  /-- `LDH (n),A` -/
  | ldh_mn_a (n : Byte)
  /-- `AND n` -/
  | and_n (n : Byte)
  /-- `ADD SP,e` -/
  | add_sp_e (e : Byte)
  /-- `LD (nn),A` -/
  | ld_mnn_a (nn : Word)
  /-- `XOR n` -/
  | xor_n (n : Byte)
  /-- `LDH A,(n)` -/
  | ldh_a_mn (n : Byte)
  /-- `OR n` -/
  | or_n (n : Byte)
  /-- `LD HL,SP+e` -/
  | ld_hl_sp_e (e : Byte)
  /-- `LD A,(nn)` -/
  | ld_a_mnn (nn : Word)
  /-- `CP n` -/
  | cp_n (n : Byte)
  /-- `NOP` -/
  | nop
  /-- `LD (BC),A` -/
  | ld_mbc_a
  /-- `INC BC` -/
  | inc_bc
  /-- `INC B` -/
  | inc_b
  /-- `DEC B` -/
  | dec_b
  /-- `RLCA` -/
  | rlca
  /-- `ADD HL,BC` -/
  | add_hl_bc
  /-- `LD A,(BC)` -/
  | ld_a_mbc
  /-- `DEC BC` -/
  | dec_bc
  /-- `INC C` -/
  | inc_c
  /-- `DEC C` -/
  | dec_c
  /-- `RRCA` -/
  | rrca
  /-- `LD (DE),A` -/
  | ld_mde_a
  /-- `INC DE` -/
  | inc_de
  /-- `INC D` -/
  | inc_d
  /-- `DEC D` -/
  | dec_d
  /-- `RLA` -/
  | rla
  /-- `ADD HL,DE` -/
  | add_hl_de
  /-- `LD A,(DE)` -/
  | ld_a_mde
  /-- `DEC DE` -/
  | dec_de
  /-- `INC E` -/
  | inc_e
  /-- `DEC E` -/
  | dec_e
  /-- `RRA` -/
  | rra
  /-- `LD (HL+),A` -/
  | ld_mhli_a
  /-- `INC HL` -/
  | inc_hl
  /-- `INC H` -/
  | inc_h
  /-- `DEC H` -/
  | dec_h
  /-- `DAA` -/
  | daa
  /-- `ADD HL,HL` -/
  | add_hl_hl
  /-- `LD A,(HL+)` -/
  | ld_a_mhli
  /-- `DEC HL` -/
  | dec_hl
  /-- `INC L` -/
  | inc_l
  /-- `DEC L` -/
  | dec_l
  /-- `CPL` -/
  | cpl
  /-- `LD (HL-),A` -/
  | ld_mhld_a
  /-- `INC SP` -/
  | inc_sp
  /-- `INC (HL)` -/
  | inc_mhl
  /-- `DEC (HL)` -/
  | dec_mhl
  /-- `SCF` -/
  | scf
  /-- `ADD HL,SP` -/
  | add_hl_sp
  /-- `LD A,(HL-)` -/
  | ld_a_mhld
  /-- `DEC SP` -/
  | dec_sp
  /-- `INC A` -/
  | inc_a
  /-- `DEC A` -/
  | dec_a
  /-- `CCF` -/
  | ccf
  /-- `LD B,B` -/
  | ld_b_b
  /-- `LD B,C` -/
  | ld_b_c
  /-- `LD B,D` -/
  | ld_b_d
  /-- `LD B,E` -/
  | ld_b_e
  /-- `LD B,H` -/
  | ld_b_h
  /-- `LD B,L` -/
  | ld_b_l
  /-- `LD B,(HL)` -/
  | ld_b_mhl
  /-- `LD B,A` -/
  | ld_b_a
  /-- `LD C,B` -/
  | ld_c_b
  /-- `LD C,C` -/
  | ld_c_c
  /-- `LD C,D` -/
  | ld_c_d
  /-- `LD C,E` -/
  | ld_c_e
  /-- `LD C,H` -/
  | ld_c_h
  /-- `LD C,L` -/
  | ld_c_l
  /-- `LD C,(HL)` -/
  | ld_c_mhl
  /-- `LD C,A` -/
  | ld_c_a
  /-- `LD D,B` -/
  | ld_d_b
  /-- `LD D,C` -/
  | ld_d_c
  /-- `LD D,D` -/
  | ld_d_d
  /-- `LD D,E` -/
  | ld_d_e
  /-- `LD D,H` -/
  | ld_d_h
  /-- `LD D,L` -/
  | ld_d_l
  /-- `LD D,(HL)` -/
  | ld_d_mhl
  /-- `LD D,A` -/
  | ld_d_a
  /-- `LD E,B` -/
  | ld_e_b
  /-- `LD E,C` -/
  | ld_e_c
  /-- `LD E,D` -/
  | ld_e_d
  /-- `LD E,E` -/
  | ld_e_e
  /-- `LD E,H` -/
  | ld_e_h
  /-- `LD E,L` -/
  | ld_e_l
  /-- `LD E,(HL)` -/
  | ld_e_mhl
  /-- `LD E,A` -/
  | ld_e_a
  /-- `LD H,B` -/
  | ld_h_b
  /-- `LD H,C` -/
  | ld_h_c
  /-- `LD H,D` -/
  | ld_h_d
  /-- `LD H,E` -/
  | ld_h_e
  /-- `LD H,H` -/
  | ld_h_h
  /-- `LD H,L` -/
  | ld_h_l
  /-- `LD H,(HL)` -/
  | ld_h_mhl
  /-- `LD H,A` -/
  | ld_h_a
  /-- `LD L,B` -/
  | ld_l_b
  /-- `LD L,C` -/
  | ld_l_c
  /-- `LD L,D` -/
  | ld_l_d
  /-- `LD L,E` -/
  | ld_l_e
  /-- `LD L,H` -/
  | ld_l_h
  /-- `LD L,L` -/
  | ld_l_l
  /-- `LD L,(HL)` -/
  | ld_l_mhl
  /-- `LD L,A` -/
  | ld_l_a
  /-- `LD (HL),B` -/
  | ld_mhl_b
  /-- `LD (HL),C` -/
  | ld_mhl_c
  /-- `LD (HL),D` -/
  | ld_mhl_d
  /-- `LD (HL),E` -/
  | ld_mhl_e
  /-- `LD (HL),H` -/
  | ld_mhl_h
  /-- `LD (HL),L` -/
  | ld_mhl_l
  /-- `HALT` -/
  | halt
  /-- `LD (HL),A` -/
  | ld_mhl_a
  /-- `LD A,B` -/
  | ld_a_b
  /-- `LD A,C` -/
  | ld_a_c
  /-- `LD A,D` -/
  | ld_a_d
  /-- `LD A,E` -/
  | ld_a_e
  /-- `LD A,H` -/
  | ld_a_h
  /-- `LD A,L` -/
  | ld_a_l
  /-- `LD A,(HL)` -/
  | ld_a_mhl
  /-- `LD A,A` -/
  | ld_a_a
  /-- `ADD A,B` -/
  | add_a_b
  /-- `ADD A,C` -/
  | add_a_c
  /-- `ADD A,D` -/
  | add_a_d
  /-- `ADD A,E` -/
  | add_a_e
  /-- `ADD A,H` -/
  | add_a_h
  /-- `ADD A,L` -/
  | add_a_l
  /-- `ADD A,(HL)` -/
  | add_a_mhl
  /-- `ADD A,A` -/
  | add_a_a
  /-- `ADC A,B` -/
  | adc_a_b
  /-- `ADC A,C` -/
  | adc_a_c
  /-- `ADC A,D` -/
  | adc_a_d
  /-- `ADC A,E` -/
  | adc_a_e
  /-- `ADC A,H` -/
  | adc_a_h
  /-- `ADC A,L` -/
  | adc_a_l
  /-- `ADC A,(HL)` -/
  | adc_a_mhl
  /-- `ADC A,A` -/
  | adc_a_a
  /-- `SUB B` -/
  | sub_b
  /-- `SUB C` -/
  | sub_c
  /-- `SUB D` -/
  | sub_d
  /-- `SUB E` -/
  | sub_e
  /-- `SUB H` -/
  | sub_h
  /-- `SUB L` -/
  | sub_l
  /-- `SUB (HL)` -/
  | sub_mhl
  /-- `SUB A` -/
  | sub_a
  /-- `SBC A,B` -/
  | sbc_a_b
  /-- `SBC A,C` -/
  | sbc_a_c
  /-- `SBC A,D` -/
  | sbc_a_d
  /-- `SBC A,E` -/
  | sbc_a_e
  /-- `SBC A,H` -/
  | sbc_a_h
  /-- `SBC A,L` -/
  | sbc_a_l
  /-- `SBC A,(HL)` -/
  | sbc_a_mhl
  /-- `SBC A,A` -/
  | sbc_a_a
  /-- `AND B` -/
  | and_b
  /-- `AND C` -/
  | and_c
  /-- `AND D` -/
  | and_d
  /-- `AND E` -/
  | and_e
  /-- `AND H` -/
  | and_h
  /-- `AND L` -/
  | and_l
  /-- `AND (HL)` -/
  | and_mhl
  /-- `AND A` -/
  | and_a
  /-- `XOR B` -/
  | xor_b
  /-- `XOR C` -/
  | xor_c
  /-- `XOR D` -/
  | xor_d
  /-- `XOR E` -/
  | xor_e
  /-- `XOR H` -/
  | xor_h
  /-- `XOR L` -/
  | xor_l
  /-- `XOR (HL)` -/
  | xor_mhl
  /-- `XOR A` -/
  | xor_a
  /-- `OR B` -/
  | or_b
  /-- `OR C` -/
  | or_c
  /-- `OR D` -/
  | or_d
  /-- `OR E` -/
  | or_e
  /-- `OR H` -/
  | or_h
  /-- `OR L` -/
  | or_l
  /-- `OR (HL)` -/
  | or_mhl
  /-- `OR A` -/
  | or_a
  /-- `CP B` -/
  | cp_b
  /-- `CP C` -/
  | cp_c
  /-- `CP D` -/
  | cp_d
  /-- `CP E` -/
  | cp_e
  /-- `CP H` -/
  | cp_h
  /-- `CP L` -/
  | cp_l
  /-- `CP (HL)` -/
  | cp_mhl
  /-- `CP A` -/
  | cp_a
  /-- `RET NZ` -/
  | ret_nz
  /-- `POP BC` -/
  | pop_bc
  /-- `PUSH BC` -/
  | push_bc
  /-- `RST 0x00` -/
  | rst_00
  /-- `RET Z` -/
  | ret_z
  /-- `RET` -/
  | ret
  /-- `RST 0x08` -/
  | rst_08
  /-- `RET NC` -/
  | ret_nc
  /-- `POP DE` -/
  | pop_de
  /-- `ILLEGAL` 0xD3 -/
  | illegal_d3
  /-- `PUSH DE` -/
  | push_de
  /-- `RST 0x10` -/
  | rst_10
  /-- `RET C` -/
  | ret_c
  /-- `RETI` -/
  | reti
  /-- `ILLEGAL` 0xDB -/
  | illegal_db
  /-- `ILLEGAL` 0xDD -/
  | illegal_dd
  /-- `RST 0x18` -/
  | rst_18
  /-- `POP HL` -/
  | pop_hl
  /-- `LDH (C),A` -/
  | ldh_mc_a
  /-- `ILLEGAL` 0xE3 -/
  | illegal_e3
  /-- `ILLEGAL` 0xE4 -/
  | illegal_e4
  /-- `PUSH HL` -/
  | push_hl
  /-- `RST 0x20` -/
  | rst_20
  /-- `JP HL` -/
  | jp_hl
  /-- `ILLEGAL` 0xEB -/
  | illegal_eb
  /-- `ILLEGAL` 0xEC -/
  | illegal_ec
  /-- `ILLEGAL` 0xED -/
  | illegal_ed
  /-- `RST 0x28` -/
  | rst_28
  /-- `POP AF` -/
  | pop_af
  /-- `LDH A,(C)` -/
  | ldh_a_mc
  /-- `DI` -/
  | di
  /-- `ILLEGAL` 0xF4 -/
  | illegal_f4
  /-- `PUSH AF` -/
  | push_af
  /-- `RST 0x30` -/
  | rst_30
  /-- `LD SP,HL` -/
  | ld_sp_hl
  /-- `EI` -/
  | ei
  /-- `ILLEGAL` 0xFC -/
  | illegal_fc
  /-- `ILLEGAL` 0xFD -/
  | illegal_fd
  /-- `RST 0x38` -/
  | rst_38
  /-- `RLC B` -/
  | rlc_b
  /-- `RLC C` -/
  | rlc_c
  /-- `RLC D` -/
  | rlc_d
  /-- `RLC E` -/
  | rlc_e
  /-- `RLC H` -/
  | rlc_h
  /-- `RLC L` -/
  | rlc_l
  /-- `RLC (HL)` -/
  | rlc_mhl
  /-- `RLC A` -/
  | rlc_a
  /-- `RRC B` -/
  | rrc_b
  /-- `RRC C` -/
  | rrc_c
  /-- `RRC D` -/
  | rrc_d
  /-- `RRC E` -/
  | rrc_e
  /-- `RRC H` -/
  | rrc_h
  /-- `RRC L` -/
  | rrc_l
  /-- `RRC (HL)` -/
  | rrc_mhl
  /-- `RRC A` -/
  | rrc_a
  /-- `RL B` -/
  | rl_b
  /-- `RL C` -/
  | rl_c
  /-- `RL D` -/
  | rl_d
  /-- `RL E` -/
  | rl_e
  /-- `RL H` -/
  | rl_h
  /-- `RL L` -/
  | rl_l
  /-- `RL (HL)` -/
  | rl_mhl
  /-- `RL A` -/
  | rl_a
  /-- `RR B` -/
  | rr_b
  /-- `RR C` -/
  | rr_c
  /-- `RR D` -/
  | rr_d
  /-- `RR E` -/
  | rr_e
  /-- `RR H` -/
  | rr_h
  /-- `RR L` -/
  | rr_l
  /-- `RR (HL)` -/
  | rr_mhl
  /-- `RR A` -/
  | rr_a
  /-- `SLA B` -/
  | sla_b
  /-- `SLA C` -/
  | sla_c
  /-- `SLA D` -/
  | sla_d
  /-- `SLA E` -/
  | sla_e
  /-- `SLA H` -/
  | sla_h
  /-- `SLA L` -/
  | sla_l
  /-- `SLA (HL)` -/
  | sla_mhl
  /-- `SLA A` -/
  | sla_a
  /-- `SRA B` -/
  | sra_b
  /-- `SRA C` -/
  | sra_c
  /-- `SRA D` -/
  | sra_d
  /-- `SRA E` -/
  | sra_e
  /-- `SRA H` -/
  | sra_h
  /-- `SRA L` -/
  | sra_l
  /-- `SRA (HL)` -/
  | sra_mhl
  /-- `SRA A` -/
  | sra_a
  /-- `SWAP B` -/
  | swap_b
  /-- `SWAP C` -/
  | swap_c
  /-- `SWAP D` -/
  | swap_d
  /-- `SWAP E` -/
  | swap_e
  /-- `SWAP H` -/
  | swap_h
  /-- `SWAP L` -/
  | swap_l
  /-- `SWAP (HL)` -/
  | swap_mhl
  /-- `SWAP A` -/
  | swap_a
  /-- `SRL B` -/
  | srl_b
  /-- `SRL C` -/
  | srl_c
  /-- `SRL D` -/
  | srl_d
  /-- `SRL E` -/
  | srl_e
  /-- `SRL H` -/
  | srl_h
  /-- `SRL L` -/
  | srl_l
  /-- `SRL (HL)` -/
  | srl_mhl
  /-- `SRL A` -/
  | srl_a
  /-- `BIT 0,B` -/
  | bit_0_b
  /-- `BIT 0,C` -/
  | bit_0_c
  /-- `BIT 0,D` -/
  | bit_0_d
  /-- `BIT 0,E` -/
  | bit_0_e
  /-- `BIT 0,H` -/
  | bit_0_h
  /-- `BIT 0,L` -/
  | bit_0_l
  /-- `BIT 0,(HL)` -/
  | bit_0_mhl
  /-- `BIT 0,A` -/
  | bit_0_a
  /-- `BIT 1,B` -/
  | bit_1_b
  /-- `BIT 1,C` -/
  | bit_1_c
  /-- `BIT 1,D` -/
  | bit_1_d
  /-- `BIT 1,E` -/
  | bit_1_e
  /-- `BIT 1,H` -/
  | bit_1_h
  /-- `BIT 1,L` -/
  | bit_1_l
  /-- `BIT 1,(HL)` -/
  | bit_1_mhl
  /-- `BIT 1,A` -/
  | bit_1_a
  /-- `BIT 2,B` -/
  | bit_2_b
  /-- `BIT 2,C` -/
  | bit_2_c
  /-- `BIT 2,D` -/
  | bit_2_d
  /-- `BIT 2,E` -/
  | bit_2_e
  /-- `BIT 2,H` -/
  | bit_2_h
  /-- `BIT 2,L` -/
  | bit_2_l
  /-- `BIT 2,(HL)` -/
  | bit_2_mhl
  /-- `BIT 2,A` -/
  | bit_2_a
  /-- `BIT 3,B` -/
  | bit_3_b
  /-- `BIT 3,C` -/
  | bit_3_c
  /-- `BIT 3,D` -/
  | bit_3_d
  /-- `BIT 3,E` -/
  | bit_3_e
  /-- `BIT 3,H` -/
  | bit_3_h
  /-- `BIT 3,L` -/
  | bit_3_l
  /-- `BIT 3,(HL)` -/
  | bit_3_mhl
  /-- `BIT 3,A` -/
  | bit_3_a
  /-- `BIT 4,B` -/
  | bit_4_b
  /-- `BIT 4,C` -/
  | bit_4_c
  /-- `BIT 4,D` -/
  | bit_4_d
  /-- `BIT 4,E` -/
  | bit_4_e
  /-- `BIT 4,H` -/
  | bit_4_h
  /-- `BIT 4,L` -/
  | bit_4_l
  /-- `BIT 4,(HL)` -/
  | bit_4_mhl
  /-- `BIT 4,A` -/
  | bit_4_a
  /-- `BIT 5,B` -/
  | bit_5_b
  /-- `BIT 5,C` -/
  | bit_5_c
  /-- `BIT 5,D` -/
  | bit_5_d
  /-- `BIT 5,E` -/
  | bit_5_e
  /-- `BIT 5,H` -/
  | bit_5_h
  /-- `BIT 5,L` -/
  | bit_5_l
  /-- `BIT 5,(HL)` -/
  | bit_5_mhl
  /-- `BIT 5,A` -/
  | bit_5_a
  /-- `BIT 6,B` -/
  | bit_6_b
  /-- `BIT 6,C` -/
  | bit_6_c
  /-- `BIT 6,D` -/
  | bit_6_d
  /-- `BIT 6,E` -/
  | bit_6_e
  /-- `BIT 6,H` -/
  | bit_6_h
  /-- `BIT 6,L` -/
  | bit_6_l
  /-- `BIT 6,(HL)` -/
  | bit_6_mhl
  /-- `BIT 6,A` -/
  | bit_6_a
  /-- `BIT 7,B` -/
  | bit_7_b
  /-- `BIT 7,C` -/
  | bit_7_c
  /-- `BIT 7,D` -/
  | bit_7_d
  /-- `BIT 7,E` -/
  | bit_7_e
  /-- `BIT 7,H` -/
  | bit_7_h
  /-- `BIT 7,L` -/
  | bit_7_l
  /-- `BIT 7,(HL)` -/
  | bit_7_mhl
  /-- `BIT 7,A` -/
  | bit_7_a
  /-- `RES 0,B` -/
  | res_0_b
  /-- `RES 0,C` -/
  | res_0_c
  /-- `RES 0,D` -/
  | res_0_d
  /-- `RES 0,E` -/
  | res_0_e
  /-- `RES 0,H` -/
  | res_0_h
  /-- `RES 0,L` -/
  | res_0_l
  /-- `RES 0,(HL)` -/
  | res_0_mhl
  /-- `RES 0,A` -/
  | res_0_a
  /-- `RES 1,B` -/
  | res_1_b
  /-- `RES 1,C` -/
  | res_1_c
  /-- `RES 1,D` -/
  | res_1_d
  /-- `RES 1,E` -/
  | res_1_e
  /-- `RES 1,H` -/
  | res_1_h
  /-- `RES 1,L` -/
  | res_1_l
  /-- `RES 1,(HL)` -/
  | res_1_mhl
  /-- `RES 1,A` -/
  | res_1_a
  /-- `RES 2,B` -/
  | res_2_b
  /-- `RES 2,C` -/
  | res_2_c
  /-- `RES 2,D` -/
  | res_2_d
  /-- `RES 2,E` -/
  | res_2_e
  /-- `RES 2,H` -/
  | res_2_h
  /-- `RES 2,L` -/
  | res_2_l
  /-- `RES 2,(HL)` -/
  | res_2_mhl
  /-- `RES 2,A` -/
  | res_2_a
  /-- `RES 3,B` -/
  | res_3_b
  /-- `RES 3,C` -/
  | res_3_c
  /-- `RES 3,D` -/
  | res_3_d
  /-- `RES 3,E` -/
  | res_3_e
  /-- `RES 3,H` -/
  | res_3_h
  /-- `RES 3,L` -/
  | res_3_l
  /-- `RES 3,(HL)` -/
  | res_3_mhl
  /-- `RES 3,A` -/
  | res_3_a
  /-- `RES 4,B` -/
  | res_4_b
  /-- `RES 4,C` -/
  | res_4_c
  /-- `RES 4,D` -/
  | res_4_d
  /-- `RES 4,E` -/
  | res_4_e
  /-- `RES 4,H` -/
  | res_4_h
  /-- `RES 4,L` -/
  | res_4_l
  /-- `RES 4,(HL)` -/
  | res_4_mhl
  /-- `RES 4,A` -/
  | res_4_a
  /-- `RES 5,B` -/
  | res_5_b
  /-- `RES 5,C` -/
  | res_5_c
  /-- `RES 5,D` -/
  | res_5_d
  /-- `RES 5,E` -/
  | res_5_e
  /-- `RES 5,H` -/
  | res_5_h
  /-- `RES 5,L` -/
  | res_5_l
  /-- `RES 5,(HL)` -/
  | res_5_mhl
  /-- `RES 5,A` -/
  | res_5_a
  /-- `RES 6,B` -/
  | res_6_b
  /-- `RES 6,C` -/
  | res_6_c
  /-- `RES 6,D` -/
  | res_6_d
  /-- `RES 6,E` -/
  | res_6_e
  /-- `RES 6,H` -/
  | res_6_h
  /-- `RES 6,L` -/
  | res_6_l
  /-- `RES 6,(HL)` -/
  | res_6_mhl
  /-- `RES 6,A` -/
  | res_6_a
  /-- `RES 7,B` -/
  | res_7_b
  /-- `RES 7,C` -/
  | res_7_c
  /-- `RES 7,D` -/
  | res_7_d
  /-- `RES 7,E` -/
  | res_7_e
  /-- `RES 7,H` -/
  | res_7_h
  /-- `RES 7,L` -/
  | res_7_l
  /-- `RES 7,(HL)` -/
  | res_7_mhl
  /-- `RES 7,A` -/
  | res_7_a
  /-- `SET 0,B` -/
  | set_0_b
  /-- `SET 0,C` -/
  | set_0_c
  /-- `SET 0,D` -/
  | set_0_d
  /-- `SET 0,E` -/
  | set_0_e
  /-- `SET 0,H` -/
  | set_0_h
  /-- `SET 0,L` -/
  | set_0_l
  /-- `SET 0,(HL)` -/
  | set_0_mhl
  /-- `SET 0,A` -/
  | set_0_a
  /-- `SET 1,B` -/
  | set_1_b
  /-- `SET 1,C` -/
  | set_1_c
  /-- `SET 1,D` -/
  | set_1_d
  /-- `SET 1,E` -/
  | set_1_e
  /-- `SET 1,H` -/
  | set_1_h
  /-- `SET 1,L` -/
  | set_1_l
  /-- `SET 1,(HL)` -/
  | set_1_mhl
  /-- `SET 1,A` -/
  | set_1_a
  /-- `SET 2,B` -/
  | set_2_b
  /-- `SET 2,C` -/
  | set_2_c
  /-- `SET 2,D` -/
  | set_2_d
  /-- `SET 2,E` -/
  | set_2_e
  /-- `SET 2,H` -/
  | set_2_h
  /-- `SET 2,L` -/
  | set_2_l
  /-- `SET 2,(HL)` -/
  | set_2_mhl
  /-- `SET 2,A` -/
  | set_2_a
  /-- `SET 3,B` -/
  | set_3_b
  /-- `SET 3,C` -/
  | set_3_c
  /-- `SET 3,D` -/
  | set_3_d
  /-- `SET 3,E` -/
  | set_3_e
  /-- `SET 3,H` -/
  | set_3_h
  /-- `SET 3,L` -/
  | set_3_l
  /-- `SET 3,(HL)` -/
  | set_3_mhl
  /-- `SET 3,A` -/
  | set_3_a
  /-- `SET 4,B` -/
  | set_4_b
  /-- `SET 4,C` -/
  | set_4_c
  /-- `SET 4,D` -/
  | set_4_d
  /-- `SET 4,E` -/
  | set_4_e
  /-- `SET 4,H` -/
  | set_4_h
  /-- `SET 4,L` -/
  | set_4_l
  /-- `SET 4,(HL)` -/
  | set_4_mhl
  /-- `SET 4,A` -/
  | set_4_a
  /-- `SET 5,B` -/
  | set_5_b
  /-- `SET 5,C` -/
  | set_5_c
  /-- `SET 5,D` -/
  | set_5_d
  /-- `SET 5,E` -/
  | set_5_e
  /-- `SET 5,H` -/
  | set_5_h
  /-- `SET 5,L` -/
  | set_5_l
  /-- `SET 5,(HL)` -/
  | set_5_mhl
  /-- `SET 5,A` -/
  | set_5_a
  /-- `SET 6,B` -/
  | set_6_b
  /-- `SET 6,C` -/
  | set_6_c
  /-- `SET 6,D` -/
  | set_6_d
  /-- `SET 6,E` -/
  | set_6_e
  /-- `SET 6,H` -/
  | set_6_h
  /-- `SET 6,L` -/
  | set_6_l
  /-- `SET 6,(HL)` -/
  | set_6_mhl
  /-- `SET 6,A` -/
  | set_6_a
  /-- `SET 7,B` -/
  | set_7_b
  /-- `SET 7,C` -/
  | set_7_c
  /-- `SET 7,D` -/
  | set_7_d
  /-- `SET 7,E` -/
  | set_7_e
  /-- `SET 7,H` -/
  | set_7_h
  /-- `SET 7,L` -/
  | set_7_l
  /-- `SET 7,(HL)` -/
  | set_7_mhl
  /-- `SET 7,A` -/
  | set_7_a
  deriving DecidableEq, Repr

end Sys2Proof
end

