-- ==== Sys2Proof/WellFormed.lean ====
section
/-! DEFINITION. Which terms of `Instr` are instructions. Every operand's width is in its type, so the one check is that
the prefix byte stands for no instruction by itself (30_encoding.md R134: "It is not an instruction"). -/

namespace Sys2Proof

/-- The term is the `0xCB` prefix, not yet resolved to the CB-page instruction its byte 1 selects (log 8). -/
def Instr.isPrefix (i : Instr) : Bool :=
  match i with
  | .prefixCb _ => true
  | _ => false

/-- The term is an instruction. -/
def WellFormed (i : Instr) : Bool := !i.isPrefix

end Sys2Proof
end

