-- ==== Sys2Proof/Decode.lean ====
section
/-! DEFINITION. The decoder, total on any bytes, and the encoder (30_encoding.md). The first byte is looked up in the
base map (R130); the prefix byte selects the CB page by byte 1 (R131, R134, R137). -/

namespace Sys2Proof

/-- A hexadecimal digit, so that a map of 256 opcodes is a table of 16 rows of 16 with no row left over. -/
inductive Hex where
  | h0
  | h1
  | h2
  | h3
  | h4
  | h5
  | h6
  | h7
  | h8
  | h9
  | hA
  | hB
  | hC
  | hD
  | hE
  | hF
  deriving DecidableEq, Repr

/-- The digit of four bits, most significant first. -/
def Hex.ofBits : Bool → Bool → Bool → Bool → Hex
  | false, false, false, false => .h0
  | false, false, false, true => .h1
  | false, false, true, false => .h2
  | false, false, true, true => .h3
  | false, true, false, false => .h4
  | false, true, false, true => .h5
  | false, true, true, false => .h6
  | false, true, true, true => .h7
  | true, false, false, false => .h8
  | true, false, false, true => .h9
  | true, false, true, false => .hA
  | true, false, true, true => .hB
  | true, true, false, false => .hC
  | true, true, false, true => .hD
  | true, true, true, false => .hE
  | true, true, true, true => .hF

/-- The high digit of a byte, bits 7 to 4. -/
def hexHigh (v : Byte) : Hex := Hex.ofBits (bitAt v 7) (bitAt v 6) (bitAt v 5) (bitAt v 4)

/-- The low digit of a byte, bits 3 to 0. -/
def hexLow (v : Byte) : Hex := Hex.ofBits (bitAt v 3) (bitAt v 2) (bitAt v 1) (bitAt v 0)

/-! ## The base map (R130), one row for each high digit of byte 0; `b1` and `b2` are the bytes that follow -/

/-- Opcodes `0x00` to `0x0F`. -/
def baseRow0 (b1 b2 : Byte) : Hex → Instr
  | .h0 => .nop
  | .h1 => .ld_bc_nn (pair b2 b1)
  | .h2 => .ld_mbc_a
  | .h3 => .inc_bc
  | .h4 => .inc_b
  | .h5 => .dec_b
  | .h6 => .ld_b_n b1
  | .h7 => .rlca
  | .h8 => .ld_mnn_sp (pair b2 b1)
  | .h9 => .add_hl_bc
  | .hA => .ld_a_mbc
  | .hB => .dec_bc
  | .hC => .inc_c
  | .hD => .dec_c
  | .hE => .ld_c_n b1
  | .hF => .rrca

/-- Opcodes `0x10` to `0x1F`. -/
def baseRow1 (b1 b2 : Byte) : Hex → Instr
  | .h0 => .stop b1
  | .h1 => .ld_de_nn (pair b2 b1)
  | .h2 => .ld_mde_a
  | .h3 => .inc_de
  | .h4 => .inc_d
  | .h5 => .dec_d
  | .h6 => .ld_d_n b1
  | .h7 => .rla
  | .h8 => .jr_e b1
  | .h9 => .add_hl_de
  | .hA => .ld_a_mde
  | .hB => .dec_de
  | .hC => .inc_e
  | .hD => .dec_e
  | .hE => .ld_e_n b1
  | .hF => .rra

/-- Opcodes `0x20` to `0x2F`. -/
def baseRow2 (b1 b2 : Byte) : Hex → Instr
  | .h0 => .jr_nz_e b1
  | .h1 => .ld_hl_nn (pair b2 b1)
  | .h2 => .ld_mhli_a
  | .h3 => .inc_hl
  | .h4 => .inc_h
  | .h5 => .dec_h
  | .h6 => .ld_h_n b1
  | .h7 => .daa
  | .h8 => .jr_z_e b1
  | .h9 => .add_hl_hl
  | .hA => .ld_a_mhli
  | .hB => .dec_hl
  | .hC => .inc_l
  | .hD => .dec_l
  | .hE => .ld_l_n b1
  | .hF => .cpl

/-- Opcodes `0x30` to `0x3F`. -/
def baseRow3 (b1 b2 : Byte) : Hex → Instr
  | .h0 => .jr_nc_e b1
  | .h1 => .ld_sp_nn (pair b2 b1)
  | .h2 => .ld_mhld_a
  | .h3 => .inc_sp
  | .h4 => .inc_mhl
  | .h5 => .dec_mhl
  | .h6 => .ld_mhl_n b1
  | .h7 => .scf
  | .h8 => .jr_c_e b1
  | .h9 => .add_hl_sp
  | .hA => .ld_a_mhld
  | .hB => .dec_sp
  | .hC => .inc_a
  | .hD => .dec_a
  | .hE => .ld_a_n b1
  | .hF => .ccf

/-- Opcodes `0x40` to `0x4F`. -/
def baseRow4 (_ _ : Byte) : Hex → Instr
  | .h0 => .ld_b_b
  | .h1 => .ld_b_c
  | .h2 => .ld_b_d
  | .h3 => .ld_b_e
  | .h4 => .ld_b_h
  | .h5 => .ld_b_l
  | .h6 => .ld_b_mhl
  | .h7 => .ld_b_a
  | .h8 => .ld_c_b
  | .h9 => .ld_c_c
  | .hA => .ld_c_d
  | .hB => .ld_c_e
  | .hC => .ld_c_h
  | .hD => .ld_c_l
  | .hE => .ld_c_mhl
  | .hF => .ld_c_a

/-- Opcodes `0x50` to `0x5F`. -/
def baseRow5 (_ _ : Byte) : Hex → Instr
  | .h0 => .ld_d_b
  | .h1 => .ld_d_c
  | .h2 => .ld_d_d
  | .h3 => .ld_d_e
  | .h4 => .ld_d_h
  | .h5 => .ld_d_l
  | .h6 => .ld_d_mhl
  | .h7 => .ld_d_a
  | .h8 => .ld_e_b
  | .h9 => .ld_e_c
  | .hA => .ld_e_d
  | .hB => .ld_e_e
  | .hC => .ld_e_h
  | .hD => .ld_e_l
  | .hE => .ld_e_mhl
  | .hF => .ld_e_a

/-- Opcodes `0x60` to `0x6F`. -/
def baseRow6 (_ _ : Byte) : Hex → Instr
  | .h0 => .ld_h_b
  | .h1 => .ld_h_c
  | .h2 => .ld_h_d
  | .h3 => .ld_h_e
  | .h4 => .ld_h_h
  | .h5 => .ld_h_l
  | .h6 => .ld_h_mhl
  | .h7 => .ld_h_a
  | .h8 => .ld_l_b
  | .h9 => .ld_l_c
  | .hA => .ld_l_d
  | .hB => .ld_l_e
  | .hC => .ld_l_h
  | .hD => .ld_l_l
  | .hE => .ld_l_mhl
  | .hF => .ld_l_a

/-- Opcodes `0x70` to `0x7F`. -/
def baseRow7 (_ _ : Byte) : Hex → Instr
  | .h0 => .ld_mhl_b
  | .h1 => .ld_mhl_c
  | .h2 => .ld_mhl_d
  | .h3 => .ld_mhl_e
  | .h4 => .ld_mhl_h
  | .h5 => .ld_mhl_l
  | .h6 => .halt
  | .h7 => .ld_mhl_a
  | .h8 => .ld_a_b
  | .h9 => .ld_a_c
  | .hA => .ld_a_d
  | .hB => .ld_a_e
  | .hC => .ld_a_h
  | .hD => .ld_a_l
  | .hE => .ld_a_mhl
  | .hF => .ld_a_a

/-- Opcodes `0x80` to `0x8F`. -/
def baseRow8 (_ _ : Byte) : Hex → Instr
  | .h0 => .add_a_b
  | .h1 => .add_a_c
  | .h2 => .add_a_d
  | .h3 => .add_a_e
  | .h4 => .add_a_h
  | .h5 => .add_a_l
  | .h6 => .add_a_mhl
  | .h7 => .add_a_a
  | .h8 => .adc_a_b
  | .h9 => .adc_a_c
  | .hA => .adc_a_d
  | .hB => .adc_a_e
  | .hC => .adc_a_h
  | .hD => .adc_a_l
  | .hE => .adc_a_mhl
  | .hF => .adc_a_a

/-- Opcodes `0x90` to `0x9F`. -/
def baseRow9 (_ _ : Byte) : Hex → Instr
  | .h0 => .sub_b
  | .h1 => .sub_c
  | .h2 => .sub_d
  | .h3 => .sub_e
  | .h4 => .sub_h
  | .h5 => .sub_l
  | .h6 => .sub_mhl
  | .h7 => .sub_a
  | .h8 => .sbc_a_b
  | .h9 => .sbc_a_c
  | .hA => .sbc_a_d
  | .hB => .sbc_a_e
  | .hC => .sbc_a_h
  | .hD => .sbc_a_l
  | .hE => .sbc_a_mhl
  | .hF => .sbc_a_a

/-- Opcodes `0xA0` to `0xAF`. -/
def baseRowA (_ _ : Byte) : Hex → Instr
  | .h0 => .and_b
  | .h1 => .and_c
  | .h2 => .and_d
  | .h3 => .and_e
  | .h4 => .and_h
  | .h5 => .and_l
  | .h6 => .and_mhl
  | .h7 => .and_a
  | .h8 => .xor_b
  | .h9 => .xor_c
  | .hA => .xor_d
  | .hB => .xor_e
  | .hC => .xor_h
  | .hD => .xor_l
  | .hE => .xor_mhl
  | .hF => .xor_a

/-- Opcodes `0xB0` to `0xBF`. -/
def baseRowB (_ _ : Byte) : Hex → Instr
  | .h0 => .or_b
  | .h1 => .or_c
  | .h2 => .or_d
  | .h3 => .or_e
  | .h4 => .or_h
  | .h5 => .or_l
  | .h6 => .or_mhl
  | .h7 => .or_a
  | .h8 => .cp_b
  | .h9 => .cp_c
  | .hA => .cp_d
  | .hB => .cp_e
  | .hC => .cp_h
  | .hD => .cp_l
  | .hE => .cp_mhl
  | .hF => .cp_a

/-- Opcodes `0xC0` to `0xCF`. -/
def baseRowC (b1 b2 : Byte) : Hex → Instr
  | .h0 => .ret_nz
  | .h1 => .pop_bc
  | .h2 => .jp_nz_nn (pair b2 b1)
  | .h3 => .jp_nn (pair b2 b1)
  | .h4 => .call_nz_nn (pair b2 b1)
  | .h5 => .push_bc
  | .h6 => .add_a_n b1
  | .h7 => .rst_00
  | .h8 => .ret_z
  | .h9 => .ret
  | .hA => .jp_z_nn (pair b2 b1)
  | .hB => .prefixCb b1
  | .hC => .call_z_nn (pair b2 b1)
  | .hD => .call_nn (pair b2 b1)
  | .hE => .adc_a_n b1
  | .hF => .rst_08

/-- Opcodes `0xD0` to `0xDF`. -/
def baseRowD (b1 b2 : Byte) : Hex → Instr
  | .h0 => .ret_nc
  | .h1 => .pop_de
  | .h2 => .jp_nc_nn (pair b2 b1)
  | .h3 => .illegal_d3
  | .h4 => .call_nc_nn (pair b2 b1)
  | .h5 => .push_de
  | .h6 => .sub_n b1
  | .h7 => .rst_10
  | .h8 => .ret_c
  | .h9 => .reti
  | .hA => .jp_c_nn (pair b2 b1)
  | .hB => .illegal_db
  | .hC => .call_c_nn (pair b2 b1)
  | .hD => .illegal_dd
  | .hE => .sbc_a_n b1
  | .hF => .rst_18

/-- Opcodes `0xE0` to `0xEF`. -/
def baseRowE (b1 b2 : Byte) : Hex → Instr
  | .h0 => .ldh_mn_a b1
  | .h1 => .pop_hl
  | .h2 => .ldh_mc_a
  | .h3 => .illegal_e3
  | .h4 => .illegal_e4
  | .h5 => .push_hl
  | .h6 => .and_n b1
  | .h7 => .rst_20
  | .h8 => .add_sp_e b1
  | .h9 => .jp_hl
  | .hA => .ld_mnn_a (pair b2 b1)
  | .hB => .illegal_eb
  | .hC => .illegal_ec
  | .hD => .illegal_ed
  | .hE => .xor_n b1
  | .hF => .rst_28

/-- Opcodes `0xF0` to `0xFF`. -/
def baseRowF (b1 b2 : Byte) : Hex → Instr
  | .h0 => .ldh_a_mn b1
  | .h1 => .pop_af
  | .h2 => .ldh_a_mc
  | .h3 => .di
  | .h4 => .illegal_f4
  | .h5 => .push_af
  | .h6 => .or_n b1
  | .h7 => .rst_30
  | .h8 => .ld_hl_sp_e b1
  | .h9 => .ld_sp_hl
  | .hA => .ld_a_mnn (pair b2 b1)
  | .hB => .ei
  | .hC => .illegal_fc
  | .hD => .illegal_fd
  | .hE => .cp_n b1
  | .hF => .rst_38

/-- The base map: the row of byte 0. -/
def baseInstr (op b1 b2 : Byte) : Instr :=
  match hexHigh op with
  | .h0 => baseRow0 b1 b2 (hexLow op)
  | .h1 => baseRow1 b1 b2 (hexLow op)
  | .h2 => baseRow2 b1 b2 (hexLow op)
  | .h3 => baseRow3 b1 b2 (hexLow op)
  | .h4 => baseRow4 b1 b2 (hexLow op)
  | .h5 => baseRow5 b1 b2 (hexLow op)
  | .h6 => baseRow6 b1 b2 (hexLow op)
  | .h7 => baseRow7 b1 b2 (hexLow op)
  | .h8 => baseRow8 b1 b2 (hexLow op)
  | .h9 => baseRow9 b1 b2 (hexLow op)
  | .hA => baseRowA b1 b2 (hexLow op)
  | .hB => baseRowB b1 b2 (hexLow op)
  | .hC => baseRowC b1 b2 (hexLow op)
  | .hD => baseRowD b1 b2 (hexLow op)
  | .hE => baseRowE b1 b2 (hexLow op)
  | .hF => baseRowF b1 b2 (hexLow op)

/-! ## The CB page (R131), one row for each high digit of byte 1 -/

/-- Second bytes `0x00` to `0x0F`. -/
def cbRow0 : Hex → Instr
  | .h0 => .rlc_b
  | .h1 => .rlc_c
  | .h2 => .rlc_d
  | .h3 => .rlc_e
  | .h4 => .rlc_h
  | .h5 => .rlc_l
  | .h6 => .rlc_mhl
  | .h7 => .rlc_a
  | .h8 => .rrc_b
  | .h9 => .rrc_c
  | .hA => .rrc_d
  | .hB => .rrc_e
  | .hC => .rrc_h
  | .hD => .rrc_l
  | .hE => .rrc_mhl
  | .hF => .rrc_a

/-- Second bytes `0x10` to `0x1F`. -/
def cbRow1 : Hex → Instr
  | .h0 => .rl_b
  | .h1 => .rl_c
  | .h2 => .rl_d
  | .h3 => .rl_e
  | .h4 => .rl_h
  | .h5 => .rl_l
  | .h6 => .rl_mhl
  | .h7 => .rl_a
  | .h8 => .rr_b
  | .h9 => .rr_c
  | .hA => .rr_d
  | .hB => .rr_e
  | .hC => .rr_h
  | .hD => .rr_l
  | .hE => .rr_mhl
  | .hF => .rr_a

/-- Second bytes `0x20` to `0x2F`. -/
def cbRow2 : Hex → Instr
  | .h0 => .sla_b
  | .h1 => .sla_c
  | .h2 => .sla_d
  | .h3 => .sla_e
  | .h4 => .sla_h
  | .h5 => .sla_l
  | .h6 => .sla_mhl
  | .h7 => .sla_a
  | .h8 => .sra_b
  | .h9 => .sra_c
  | .hA => .sra_d
  | .hB => .sra_e
  | .hC => .sra_h
  | .hD => .sra_l
  | .hE => .sra_mhl
  | .hF => .sra_a

/-- Second bytes `0x30` to `0x3F`. -/
def cbRow3 : Hex → Instr
  | .h0 => .swap_b
  | .h1 => .swap_c
  | .h2 => .swap_d
  | .h3 => .swap_e
  | .h4 => .swap_h
  | .h5 => .swap_l
  | .h6 => .swap_mhl
  | .h7 => .swap_a
  | .h8 => .srl_b
  | .h9 => .srl_c
  | .hA => .srl_d
  | .hB => .srl_e
  | .hC => .srl_h
  | .hD => .srl_l
  | .hE => .srl_mhl
  | .hF => .srl_a

/-- Second bytes `0x40` to `0x4F`. -/
def cbRow4 : Hex → Instr
  | .h0 => .bit_0_b
  | .h1 => .bit_0_c
  | .h2 => .bit_0_d
  | .h3 => .bit_0_e
  | .h4 => .bit_0_h
  | .h5 => .bit_0_l
  | .h6 => .bit_0_mhl
  | .h7 => .bit_0_a
  | .h8 => .bit_1_b
  | .h9 => .bit_1_c
  | .hA => .bit_1_d
  | .hB => .bit_1_e
  | .hC => .bit_1_h
  | .hD => .bit_1_l
  | .hE => .bit_1_mhl
  | .hF => .bit_1_a

/-- Second bytes `0x50` to `0x5F`. -/
def cbRow5 : Hex → Instr
  | .h0 => .bit_2_b
  | .h1 => .bit_2_c
  | .h2 => .bit_2_d
  | .h3 => .bit_2_e
  | .h4 => .bit_2_h
  | .h5 => .bit_2_l
  | .h6 => .bit_2_mhl
  | .h7 => .bit_2_a
  | .h8 => .bit_3_b
  | .h9 => .bit_3_c
  | .hA => .bit_3_d
  | .hB => .bit_3_e
  | .hC => .bit_3_h
  | .hD => .bit_3_l
  | .hE => .bit_3_mhl
  | .hF => .bit_3_a

/-- Second bytes `0x60` to `0x6F`. -/
def cbRow6 : Hex → Instr
  | .h0 => .bit_4_b
  | .h1 => .bit_4_c
  | .h2 => .bit_4_d
  | .h3 => .bit_4_e
  | .h4 => .bit_4_h
  | .h5 => .bit_4_l
  | .h6 => .bit_4_mhl
  | .h7 => .bit_4_a
  | .h8 => .bit_5_b
  | .h9 => .bit_5_c
  | .hA => .bit_5_d
  | .hB => .bit_5_e
  | .hC => .bit_5_h
  | .hD => .bit_5_l
  | .hE => .bit_5_mhl
  | .hF => .bit_5_a

/-- Second bytes `0x70` to `0x7F`. -/
def cbRow7 : Hex → Instr
  | .h0 => .bit_6_b
  | .h1 => .bit_6_c
  | .h2 => .bit_6_d
  | .h3 => .bit_6_e
  | .h4 => .bit_6_h
  | .h5 => .bit_6_l
  | .h6 => .bit_6_mhl
  | .h7 => .bit_6_a
  | .h8 => .bit_7_b
  | .h9 => .bit_7_c
  | .hA => .bit_7_d
  | .hB => .bit_7_e
  | .hC => .bit_7_h
  | .hD => .bit_7_l
  | .hE => .bit_7_mhl
  | .hF => .bit_7_a

/-- Second bytes `0x80` to `0x8F`. -/
def cbRow8 : Hex → Instr
  | .h0 => .res_0_b
  | .h1 => .res_0_c
  | .h2 => .res_0_d
  | .h3 => .res_0_e
  | .h4 => .res_0_h
  | .h5 => .res_0_l
  | .h6 => .res_0_mhl
  | .h7 => .res_0_a
  | .h8 => .res_1_b
  | .h9 => .res_1_c
  | .hA => .res_1_d
  | .hB => .res_1_e
  | .hC => .res_1_h
  | .hD => .res_1_l
  | .hE => .res_1_mhl
  | .hF => .res_1_a

/-- Second bytes `0x90` to `0x9F`. -/
def cbRow9 : Hex → Instr
  | .h0 => .res_2_b
  | .h1 => .res_2_c
  | .h2 => .res_2_d
  | .h3 => .res_2_e
  | .h4 => .res_2_h
  | .h5 => .res_2_l
  | .h6 => .res_2_mhl
  | .h7 => .res_2_a
  | .h8 => .res_3_b
  | .h9 => .res_3_c
  | .hA => .res_3_d
  | .hB => .res_3_e
  | .hC => .res_3_h
  | .hD => .res_3_l
  | .hE => .res_3_mhl
  | .hF => .res_3_a

/-- Second bytes `0xA0` to `0xAF`. -/
def cbRowA : Hex → Instr
  | .h0 => .res_4_b
  | .h1 => .res_4_c
  | .h2 => .res_4_d
  | .h3 => .res_4_e
  | .h4 => .res_4_h
  | .h5 => .res_4_l
  | .h6 => .res_4_mhl
  | .h7 => .res_4_a
  | .h8 => .res_5_b
  | .h9 => .res_5_c
  | .hA => .res_5_d
  | .hB => .res_5_e
  | .hC => .res_5_h
  | .hD => .res_5_l
  | .hE => .res_5_mhl
  | .hF => .res_5_a

/-- Second bytes `0xB0` to `0xBF`. -/
def cbRowB : Hex → Instr
  | .h0 => .res_6_b
  | .h1 => .res_6_c
  | .h2 => .res_6_d
  | .h3 => .res_6_e
  | .h4 => .res_6_h
  | .h5 => .res_6_l
  | .h6 => .res_6_mhl
  | .h7 => .res_6_a
  | .h8 => .res_7_b
  | .h9 => .res_7_c
  | .hA => .res_7_d
  | .hB => .res_7_e
  | .hC => .res_7_h
  | .hD => .res_7_l
  | .hE => .res_7_mhl
  | .hF => .res_7_a

/-- Second bytes `0xC0` to `0xCF`. -/
def cbRowC : Hex → Instr
  | .h0 => .set_0_b
  | .h1 => .set_0_c
  | .h2 => .set_0_d
  | .h3 => .set_0_e
  | .h4 => .set_0_h
  | .h5 => .set_0_l
  | .h6 => .set_0_mhl
  | .h7 => .set_0_a
  | .h8 => .set_1_b
  | .h9 => .set_1_c
  | .hA => .set_1_d
  | .hB => .set_1_e
  | .hC => .set_1_h
  | .hD => .set_1_l
  | .hE => .set_1_mhl
  | .hF => .set_1_a

/-- Second bytes `0xD0` to `0xDF`. -/
def cbRowD : Hex → Instr
  | .h0 => .set_2_b
  | .h1 => .set_2_c
  | .h2 => .set_2_d
  | .h3 => .set_2_e
  | .h4 => .set_2_h
  | .h5 => .set_2_l
  | .h6 => .set_2_mhl
  | .h7 => .set_2_a
  | .h8 => .set_3_b
  | .h9 => .set_3_c
  | .hA => .set_3_d
  | .hB => .set_3_e
  | .hC => .set_3_h
  | .hD => .set_3_l
  | .hE => .set_3_mhl
  | .hF => .set_3_a

/-- Second bytes `0xE0` to `0xEF`. -/
def cbRowE : Hex → Instr
  | .h0 => .set_4_b
  | .h1 => .set_4_c
  | .h2 => .set_4_d
  | .h3 => .set_4_e
  | .h4 => .set_4_h
  | .h5 => .set_4_l
  | .h6 => .set_4_mhl
  | .h7 => .set_4_a
  | .h8 => .set_5_b
  | .h9 => .set_5_c
  | .hA => .set_5_d
  | .hB => .set_5_e
  | .hC => .set_5_h
  | .hD => .set_5_l
  | .hE => .set_5_mhl
  | .hF => .set_5_a

/-- Second bytes `0xF0` to `0xFF`. -/
def cbRowF : Hex → Instr
  | .h0 => .set_6_b
  | .h1 => .set_6_c
  | .h2 => .set_6_d
  | .h3 => .set_6_e
  | .h4 => .set_6_h
  | .h5 => .set_6_l
  | .h6 => .set_6_mhl
  | .h7 => .set_6_a
  | .h8 => .set_7_b
  | .h9 => .set_7_c
  | .hA => .set_7_d
  | .hB => .set_7_e
  | .hC => .set_7_h
  | .hD => .set_7_l
  | .hE => .set_7_mhl
  | .hF => .set_7_a

/-- The CB page: the instruction byte 1 selects. -/
def cbInstr (b : Byte) : Instr :=
  match hexHigh b with
  | .h0 => cbRow0 (hexLow b)
  | .h1 => cbRow1 (hexLow b)
  | .h2 => cbRow2 (hexLow b)
  | .h3 => cbRow3 (hexLow b)
  | .h4 => cbRow4 (hexLow b)
  | .h5 => cbRow5 (hexLow b)
  | .h6 => cbRow6 (hexLow b)
  | .h7 => cbRow7 (hexLow b)
  | .h8 => cbRow8 (hexLow b)
  | .h9 => cbRow9 (hexLow b)
  | .hA => cbRowA (hexLow b)
  | .hB => cbRowB (hexLow b)
  | .hC => cbRowC (hexLow b)
  | .hD => cbRowD (hexLow b)
  | .hE => cbRowE (hexLow b)
  | .hF => cbRowF (hexLow b)

/-- "If the row is `PREFIX CB`, fetch byte 1 and look up among the CB rows" (R137, R305). -/
def resolvePrefix (i : Instr) : Instr :=
  match i with
  | .prefixCb b => cbInstr b
  | i => i

/-- The instruction of byte 0 and the bytes that follow it. -/
def decodeOp (op b1 b2 : Byte) : Instr := resolvePrefix (baseInstr op b1 b2)

/-- The first bytes of three-byte instructions (R138). -/
def threeByteOps : List Byte :=
  [0x01#8, 0x08#8, 0x11#8, 0x21#8, 0x31#8, 0xC2#8, 0xC3#8, 0xC4#8, 0xCA#8, 0xCC#8, 0xCD#8, 0xD2#8, 0xD4#8, 0xDA#8,
   0xDC#8, 0xEA#8, 0xFA#8]

/-- The first bytes of two-byte instructions (R138). -/
def twoByteOps : List Byte :=
  [0x06#8, 0x0E#8, 0x10#8, 0x16#8, 0x18#8, 0x1E#8, 0x20#8, 0x26#8, 0x28#8, 0x2E#8, 0x30#8, 0x36#8, 0x38#8, 0x3E#8,
   0xC6#8, 0xCB#8, 0xCE#8, 0xD6#8, 0xDE#8, 0xE0#8, 0xE6#8, 0xE8#8, 0xEE#8, 0xF0#8, 0xF6#8, 0xF8#8, 0xFE#8]

/-- "The length is a function of the first byte alone" (R120, R138). -/
def instrLength (op : Byte) : Nat :=
  if threeByteOps.contains op then 3 else if twoByteOps.contains op then 2 else 1

/-- Why a byte list holds no instruction. -/
inductive DecodeError where
  /-- there is no byte at all -/
  | noBytes
  /-- the instruction of this first byte is longer than the bytes given -/
  | truncated (op : Byte) (need have_ : Nat)
  deriving DecidableEq, Repr

/-- The instruction at the head of a byte list, and the bytes after it. -/
def decode : List Byte → Except DecodeError (Instr × List Byte)
  | [] => .error .noBytes
  | op :: rest =>
    match instrLength op, rest with
    | 1, rest => .ok (decodeOp op 0 0, rest)
    | 2, b1 :: rest => .ok (decodeOp op b1 0, rest)
    | 3, b1 :: b2 :: rest => .ok (decodeOp op b1 b2, rest)
    | n, rest => .error (.truncated op n (1 + rest.length))

/-- The bytes of a row's word as opcode_table.json numbers it: byte 0 in bits 7:0 and later bytes above it, except that
the table writes a CB-page row as the 16-bit value with byte 0, `0xCB`, in bits 15:8 (R137, log 12). Three bytes in
all, the bits the row does not give being zero. -/
def tableWordBytes (nbits w : Nat) : List Byte :=
  if nbits = 16 ∧ w / 256 % 256 = 0xCB then [0xCB#8, BitVec.ofNat 8 w, 0#8]
  else [BitVec.ofNat 8 w, BitVec.ofNat 8 (w / 256), BitVec.ofNat 8 (w / 65536)]

/-- The instruction the decoder reads from a row's word. -/
def decodeTableWord (nbits w : Nat) : Option Instr :=
  match decode (tableWordBytes nbits w) with
  | .ok (i, _) => some i
  | .error _ => none

/-- The bytes of an instruction, lowest address first (R121, R130, R131). -/
def encode (i : Instr) : List Byte :=
  match i with
  | .nop => [0x00#8]
  | .ld_bc_nn nn => [0x01#8, lo8 nn, hi8 nn]
  | .ld_mbc_a => [0x02#8]
  | .inc_bc => [0x03#8]
  | .inc_b => [0x04#8]
  | .dec_b => [0x05#8]
  | .ld_b_n n => [0x06#8, n]
  | .rlca => [0x07#8]
  | .ld_mnn_sp nn => [0x08#8, lo8 nn, hi8 nn]
  | .add_hl_bc => [0x09#8]
  | .ld_a_mbc => [0x0A#8]
  | .dec_bc => [0x0B#8]
  | .inc_c => [0x0C#8]
  | .dec_c => [0x0D#8]
  | .ld_c_n n => [0x0E#8, n]
  | .rrca => [0x0F#8]
  | .stop n => [0x10#8, n]
  | .ld_de_nn nn => [0x11#8, lo8 nn, hi8 nn]
  | .ld_mde_a => [0x12#8]
  | .inc_de => [0x13#8]
  | .inc_d => [0x14#8]
  | .dec_d => [0x15#8]
  | .ld_d_n n => [0x16#8, n]
  | .rla => [0x17#8]
  | .jr_e e => [0x18#8, e]
  | .add_hl_de => [0x19#8]
  | .ld_a_mde => [0x1A#8]
  | .dec_de => [0x1B#8]
  | .inc_e => [0x1C#8]
  | .dec_e => [0x1D#8]
  | .ld_e_n n => [0x1E#8, n]
  | .rra => [0x1F#8]
  | .jr_nz_e e => [0x20#8, e]
  | .ld_hl_nn nn => [0x21#8, lo8 nn, hi8 nn]
  | .ld_mhli_a => [0x22#8]
  | .inc_hl => [0x23#8]
  | .inc_h => [0x24#8]
  | .dec_h => [0x25#8]
  | .ld_h_n n => [0x26#8, n]
  | .daa => [0x27#8]
  | .jr_z_e e => [0x28#8, e]
  | .add_hl_hl => [0x29#8]
  | .ld_a_mhli => [0x2A#8]
  | .dec_hl => [0x2B#8]
  | .inc_l => [0x2C#8]
  | .dec_l => [0x2D#8]
  | .ld_l_n n => [0x2E#8, n]
  | .cpl => [0x2F#8]
  | .jr_nc_e e => [0x30#8, e]
  | .ld_sp_nn nn => [0x31#8, lo8 nn, hi8 nn]
  | .ld_mhld_a => [0x32#8]
  | .inc_sp => [0x33#8]
  | .inc_mhl => [0x34#8]
  | .dec_mhl => [0x35#8]
  | .ld_mhl_n n => [0x36#8, n]
  | .scf => [0x37#8]
  | .jr_c_e e => [0x38#8, e]
  | .add_hl_sp => [0x39#8]
  | .ld_a_mhld => [0x3A#8]
  | .dec_sp => [0x3B#8]
  | .inc_a => [0x3C#8]
  | .dec_a => [0x3D#8]
  | .ld_a_n n => [0x3E#8, n]
  | .ccf => [0x3F#8]
  | .ld_b_b => [0x40#8]
  | .ld_b_c => [0x41#8]
  | .ld_b_d => [0x42#8]
  | .ld_b_e => [0x43#8]
  | .ld_b_h => [0x44#8]
  | .ld_b_l => [0x45#8]
  | .ld_b_mhl => [0x46#8]
  | .ld_b_a => [0x47#8]
  | .ld_c_b => [0x48#8]
  | .ld_c_c => [0x49#8]
  | .ld_c_d => [0x4A#8]
  | .ld_c_e => [0x4B#8]
  | .ld_c_h => [0x4C#8]
  | .ld_c_l => [0x4D#8]
  | .ld_c_mhl => [0x4E#8]
  | .ld_c_a => [0x4F#8]
  | .ld_d_b => [0x50#8]
  | .ld_d_c => [0x51#8]
  | .ld_d_d => [0x52#8]
  | .ld_d_e => [0x53#8]
  | .ld_d_h => [0x54#8]
  | .ld_d_l => [0x55#8]
  | .ld_d_mhl => [0x56#8]
  | .ld_d_a => [0x57#8]
  | .ld_e_b => [0x58#8]
  | .ld_e_c => [0x59#8]
  | .ld_e_d => [0x5A#8]
  | .ld_e_e => [0x5B#8]
  | .ld_e_h => [0x5C#8]
  | .ld_e_l => [0x5D#8]
  | .ld_e_mhl => [0x5E#8]
  | .ld_e_a => [0x5F#8]
  | .ld_h_b => [0x60#8]
  | .ld_h_c => [0x61#8]
  | .ld_h_d => [0x62#8]
  | .ld_h_e => [0x63#8]
  | .ld_h_h => [0x64#8]
  | .ld_h_l => [0x65#8]
  | .ld_h_mhl => [0x66#8]
  | .ld_h_a => [0x67#8]
  | .ld_l_b => [0x68#8]
  | .ld_l_c => [0x69#8]
  | .ld_l_d => [0x6A#8]
  | .ld_l_e => [0x6B#8]
  | .ld_l_h => [0x6C#8]
  | .ld_l_l => [0x6D#8]
  | .ld_l_mhl => [0x6E#8]
  | .ld_l_a => [0x6F#8]
  | .ld_mhl_b => [0x70#8]
  | .ld_mhl_c => [0x71#8]
  | .ld_mhl_d => [0x72#8]
  | .ld_mhl_e => [0x73#8]
  | .ld_mhl_h => [0x74#8]
  | .ld_mhl_l => [0x75#8]
  | .halt => [0x76#8]
  | .ld_mhl_a => [0x77#8]
  | .ld_a_b => [0x78#8]
  | .ld_a_c => [0x79#8]
  | .ld_a_d => [0x7A#8]
  | .ld_a_e => [0x7B#8]
  | .ld_a_h => [0x7C#8]
  | .ld_a_l => [0x7D#8]
  | .ld_a_mhl => [0x7E#8]
  | .ld_a_a => [0x7F#8]
  | .add_a_b => [0x80#8]
  | .add_a_c => [0x81#8]
  | .add_a_d => [0x82#8]
  | .add_a_e => [0x83#8]
  | .add_a_h => [0x84#8]
  | .add_a_l => [0x85#8]
  | .add_a_mhl => [0x86#8]
  | .add_a_a => [0x87#8]
  | .adc_a_b => [0x88#8]
  | .adc_a_c => [0x89#8]
  | .adc_a_d => [0x8A#8]
  | .adc_a_e => [0x8B#8]
  | .adc_a_h => [0x8C#8]
  | .adc_a_l => [0x8D#8]
  | .adc_a_mhl => [0x8E#8]
  | .adc_a_a => [0x8F#8]
  | .sub_b => [0x90#8]
  | .sub_c => [0x91#8]
  | .sub_d => [0x92#8]
  | .sub_e => [0x93#8]
  | .sub_h => [0x94#8]
  | .sub_l => [0x95#8]
  | .sub_mhl => [0x96#8]
  | .sub_a => [0x97#8]
  | .sbc_a_b => [0x98#8]
  | .sbc_a_c => [0x99#8]
  | .sbc_a_d => [0x9A#8]
  | .sbc_a_e => [0x9B#8]
  | .sbc_a_h => [0x9C#8]
  | .sbc_a_l => [0x9D#8]
  | .sbc_a_mhl => [0x9E#8]
  | .sbc_a_a => [0x9F#8]
  | .and_b => [0xA0#8]
  | .and_c => [0xA1#8]
  | .and_d => [0xA2#8]
  | .and_e => [0xA3#8]
  | .and_h => [0xA4#8]
  | .and_l => [0xA5#8]
  | .and_mhl => [0xA6#8]
  | .and_a => [0xA7#8]
  | .xor_b => [0xA8#8]
  | .xor_c => [0xA9#8]
  | .xor_d => [0xAA#8]
  | .xor_e => [0xAB#8]
  | .xor_h => [0xAC#8]
  | .xor_l => [0xAD#8]
  | .xor_mhl => [0xAE#8]
  | .xor_a => [0xAF#8]
  | .or_b => [0xB0#8]
  | .or_c => [0xB1#8]
  | .or_d => [0xB2#8]
  | .or_e => [0xB3#8]
  | .or_h => [0xB4#8]
  | .or_l => [0xB5#8]
  | .or_mhl => [0xB6#8]
  | .or_a => [0xB7#8]
  | .cp_b => [0xB8#8]
  | .cp_c => [0xB9#8]
  | .cp_d => [0xBA#8]
  | .cp_e => [0xBB#8]
  | .cp_h => [0xBC#8]
  | .cp_l => [0xBD#8]
  | .cp_mhl => [0xBE#8]
  | .cp_a => [0xBF#8]
  | .ret_nz => [0xC0#8]
  | .pop_bc => [0xC1#8]
  | .jp_nz_nn nn => [0xC2#8, lo8 nn, hi8 nn]
  | .jp_nn nn => [0xC3#8, lo8 nn, hi8 nn]
  | .call_nz_nn nn => [0xC4#8, lo8 nn, hi8 nn]
  | .push_bc => [0xC5#8]
  | .add_a_n n => [0xC6#8, n]
  | .rst_00 => [0xC7#8]
  | .ret_z => [0xC8#8]
  | .ret => [0xC9#8]
  | .jp_z_nn nn => [0xCA#8, lo8 nn, hi8 nn]
  | .prefixCb b => [0xCB#8, b]
  | .call_z_nn nn => [0xCC#8, lo8 nn, hi8 nn]
  | .call_nn nn => [0xCD#8, lo8 nn, hi8 nn]
  | .adc_a_n n => [0xCE#8, n]
  | .rst_08 => [0xCF#8]
  | .ret_nc => [0xD0#8]
  | .pop_de => [0xD1#8]
  | .jp_nc_nn nn => [0xD2#8, lo8 nn, hi8 nn]
  | .illegal_d3 => [0xD3#8]
  | .call_nc_nn nn => [0xD4#8, lo8 nn, hi8 nn]
  | .push_de => [0xD5#8]
  | .sub_n n => [0xD6#8, n]
  | .rst_10 => [0xD7#8]
  | .ret_c => [0xD8#8]
  | .reti => [0xD9#8]
  | .jp_c_nn nn => [0xDA#8, lo8 nn, hi8 nn]
  | .illegal_db => [0xDB#8]
  | .call_c_nn nn => [0xDC#8, lo8 nn, hi8 nn]
  | .illegal_dd => [0xDD#8]
  | .sbc_a_n n => [0xDE#8, n]
  | .rst_18 => [0xDF#8]
  | .ldh_mn_a n => [0xE0#8, n]
  | .pop_hl => [0xE1#8]
  | .ldh_mc_a => [0xE2#8]
  | .illegal_e3 => [0xE3#8]
  | .illegal_e4 => [0xE4#8]
  | .push_hl => [0xE5#8]
  | .and_n n => [0xE6#8, n]
  | .rst_20 => [0xE7#8]
  | .add_sp_e e => [0xE8#8, e]
  | .jp_hl => [0xE9#8]
  | .ld_mnn_a nn => [0xEA#8, lo8 nn, hi8 nn]
  | .illegal_eb => [0xEB#8]
  | .illegal_ec => [0xEC#8]
  | .illegal_ed => [0xED#8]
  | .xor_n n => [0xEE#8, n]
  | .rst_28 => [0xEF#8]
  | .ldh_a_mn n => [0xF0#8, n]
  | .pop_af => [0xF1#8]
  | .ldh_a_mc => [0xF2#8]
  | .di => [0xF3#8]
  | .illegal_f4 => [0xF4#8]
  | .push_af => [0xF5#8]
  | .or_n n => [0xF6#8, n]
  | .rst_30 => [0xF7#8]
  | .ld_hl_sp_e e => [0xF8#8, e]
  | .ld_sp_hl => [0xF9#8]
  | .ld_a_mnn nn => [0xFA#8, lo8 nn, hi8 nn]
  | .ei => [0xFB#8]
  | .illegal_fc => [0xFC#8]
  | .illegal_fd => [0xFD#8]
  | .cp_n n => [0xFE#8, n]
  | .rst_38 => [0xFF#8]
  | .rlc_b => [0xCB#8, 0x00#8]
  | .rlc_c => [0xCB#8, 0x01#8]
  | .rlc_d => [0xCB#8, 0x02#8]
  | .rlc_e => [0xCB#8, 0x03#8]
  | .rlc_h => [0xCB#8, 0x04#8]
  | .rlc_l => [0xCB#8, 0x05#8]
  | .rlc_mhl => [0xCB#8, 0x06#8]
  | .rlc_a => [0xCB#8, 0x07#8]
  | .rrc_b => [0xCB#8, 0x08#8]
  | .rrc_c => [0xCB#8, 0x09#8]
  | .rrc_d => [0xCB#8, 0x0A#8]
  | .rrc_e => [0xCB#8, 0x0B#8]
  | .rrc_h => [0xCB#8, 0x0C#8]
  | .rrc_l => [0xCB#8, 0x0D#8]
  | .rrc_mhl => [0xCB#8, 0x0E#8]
  | .rrc_a => [0xCB#8, 0x0F#8]
  | .rl_b => [0xCB#8, 0x10#8]
  | .rl_c => [0xCB#8, 0x11#8]
  | .rl_d => [0xCB#8, 0x12#8]
  | .rl_e => [0xCB#8, 0x13#8]
  | .rl_h => [0xCB#8, 0x14#8]
  | .rl_l => [0xCB#8, 0x15#8]
  | .rl_mhl => [0xCB#8, 0x16#8]
  | .rl_a => [0xCB#8, 0x17#8]
  | .rr_b => [0xCB#8, 0x18#8]
  | .rr_c => [0xCB#8, 0x19#8]
  | .rr_d => [0xCB#8, 0x1A#8]
  | .rr_e => [0xCB#8, 0x1B#8]
  | .rr_h => [0xCB#8, 0x1C#8]
  | .rr_l => [0xCB#8, 0x1D#8]
  | .rr_mhl => [0xCB#8, 0x1E#8]
  | .rr_a => [0xCB#8, 0x1F#8]
  | .sla_b => [0xCB#8, 0x20#8]
  | .sla_c => [0xCB#8, 0x21#8]
  | .sla_d => [0xCB#8, 0x22#8]
  | .sla_e => [0xCB#8, 0x23#8]
  | .sla_h => [0xCB#8, 0x24#8]
  | .sla_l => [0xCB#8, 0x25#8]
  | .sla_mhl => [0xCB#8, 0x26#8]
  | .sla_a => [0xCB#8, 0x27#8]
  | .sra_b => [0xCB#8, 0x28#8]
  | .sra_c => [0xCB#8, 0x29#8]
  | .sra_d => [0xCB#8, 0x2A#8]
  | .sra_e => [0xCB#8, 0x2B#8]
  | .sra_h => [0xCB#8, 0x2C#8]
  | .sra_l => [0xCB#8, 0x2D#8]
  | .sra_mhl => [0xCB#8, 0x2E#8]
  | .sra_a => [0xCB#8, 0x2F#8]
  | .swap_b => [0xCB#8, 0x30#8]
  | .swap_c => [0xCB#8, 0x31#8]
  | .swap_d => [0xCB#8, 0x32#8]
  | .swap_e => [0xCB#8, 0x33#8]
  | .swap_h => [0xCB#8, 0x34#8]
  | .swap_l => [0xCB#8, 0x35#8]
  | .swap_mhl => [0xCB#8, 0x36#8]
  | .swap_a => [0xCB#8, 0x37#8]
  | .srl_b => [0xCB#8, 0x38#8]
  | .srl_c => [0xCB#8, 0x39#8]
  | .srl_d => [0xCB#8, 0x3A#8]
  | .srl_e => [0xCB#8, 0x3B#8]
  | .srl_h => [0xCB#8, 0x3C#8]
  | .srl_l => [0xCB#8, 0x3D#8]
  | .srl_mhl => [0xCB#8, 0x3E#8]
  | .srl_a => [0xCB#8, 0x3F#8]
  | .bit_0_b => [0xCB#8, 0x40#8]
  | .bit_0_c => [0xCB#8, 0x41#8]
  | .bit_0_d => [0xCB#8, 0x42#8]
  | .bit_0_e => [0xCB#8, 0x43#8]
  | .bit_0_h => [0xCB#8, 0x44#8]
  | .bit_0_l => [0xCB#8, 0x45#8]
  | .bit_0_mhl => [0xCB#8, 0x46#8]
  | .bit_0_a => [0xCB#8, 0x47#8]
  | .bit_1_b => [0xCB#8, 0x48#8]
  | .bit_1_c => [0xCB#8, 0x49#8]
  | .bit_1_d => [0xCB#8, 0x4A#8]
  | .bit_1_e => [0xCB#8, 0x4B#8]
  | .bit_1_h => [0xCB#8, 0x4C#8]
  | .bit_1_l => [0xCB#8, 0x4D#8]
  | .bit_1_mhl => [0xCB#8, 0x4E#8]
  | .bit_1_a => [0xCB#8, 0x4F#8]
  | .bit_2_b => [0xCB#8, 0x50#8]
  | .bit_2_c => [0xCB#8, 0x51#8]
  | .bit_2_d => [0xCB#8, 0x52#8]
  | .bit_2_e => [0xCB#8, 0x53#8]
  | .bit_2_h => [0xCB#8, 0x54#8]
  | .bit_2_l => [0xCB#8, 0x55#8]
  | .bit_2_mhl => [0xCB#8, 0x56#8]
  | .bit_2_a => [0xCB#8, 0x57#8]
  | .bit_3_b => [0xCB#8, 0x58#8]
  | .bit_3_c => [0xCB#8, 0x59#8]
  | .bit_3_d => [0xCB#8, 0x5A#8]
  | .bit_3_e => [0xCB#8, 0x5B#8]
  | .bit_3_h => [0xCB#8, 0x5C#8]
  | .bit_3_l => [0xCB#8, 0x5D#8]
  | .bit_3_mhl => [0xCB#8, 0x5E#8]
  | .bit_3_a => [0xCB#8, 0x5F#8]
  | .bit_4_b => [0xCB#8, 0x60#8]
  | .bit_4_c => [0xCB#8, 0x61#8]
  | .bit_4_d => [0xCB#8, 0x62#8]
  | .bit_4_e => [0xCB#8, 0x63#8]
  | .bit_4_h => [0xCB#8, 0x64#8]
  | .bit_4_l => [0xCB#8, 0x65#8]
  | .bit_4_mhl => [0xCB#8, 0x66#8]
  | .bit_4_a => [0xCB#8, 0x67#8]
  | .bit_5_b => [0xCB#8, 0x68#8]
  | .bit_5_c => [0xCB#8, 0x69#8]
  | .bit_5_d => [0xCB#8, 0x6A#8]
  | .bit_5_e => [0xCB#8, 0x6B#8]
  | .bit_5_h => [0xCB#8, 0x6C#8]
  | .bit_5_l => [0xCB#8, 0x6D#8]
  | .bit_5_mhl => [0xCB#8, 0x6E#8]
  | .bit_5_a => [0xCB#8, 0x6F#8]
  | .bit_6_b => [0xCB#8, 0x70#8]
  | .bit_6_c => [0xCB#8, 0x71#8]
  | .bit_6_d => [0xCB#8, 0x72#8]
  | .bit_6_e => [0xCB#8, 0x73#8]
  | .bit_6_h => [0xCB#8, 0x74#8]
  | .bit_6_l => [0xCB#8, 0x75#8]
  | .bit_6_mhl => [0xCB#8, 0x76#8]
  | .bit_6_a => [0xCB#8, 0x77#8]
  | .bit_7_b => [0xCB#8, 0x78#8]
  | .bit_7_c => [0xCB#8, 0x79#8]
  | .bit_7_d => [0xCB#8, 0x7A#8]
  | .bit_7_e => [0xCB#8, 0x7B#8]
  | .bit_7_h => [0xCB#8, 0x7C#8]
  | .bit_7_l => [0xCB#8, 0x7D#8]
  | .bit_7_mhl => [0xCB#8, 0x7E#8]
  | .bit_7_a => [0xCB#8, 0x7F#8]
  | .res_0_b => [0xCB#8, 0x80#8]
  | .res_0_c => [0xCB#8, 0x81#8]
  | .res_0_d => [0xCB#8, 0x82#8]
  | .res_0_e => [0xCB#8, 0x83#8]
  | .res_0_h => [0xCB#8, 0x84#8]
  | .res_0_l => [0xCB#8, 0x85#8]
  | .res_0_mhl => [0xCB#8, 0x86#8]
  | .res_0_a => [0xCB#8, 0x87#8]
  | .res_1_b => [0xCB#8, 0x88#8]
  | .res_1_c => [0xCB#8, 0x89#8]
  | .res_1_d => [0xCB#8, 0x8A#8]
  | .res_1_e => [0xCB#8, 0x8B#8]
  | .res_1_h => [0xCB#8, 0x8C#8]
  | .res_1_l => [0xCB#8, 0x8D#8]
  | .res_1_mhl => [0xCB#8, 0x8E#8]
  | .res_1_a => [0xCB#8, 0x8F#8]
  | .res_2_b => [0xCB#8, 0x90#8]
  | .res_2_c => [0xCB#8, 0x91#8]
  | .res_2_d => [0xCB#8, 0x92#8]
  | .res_2_e => [0xCB#8, 0x93#8]
  | .res_2_h => [0xCB#8, 0x94#8]
  | .res_2_l => [0xCB#8, 0x95#8]
  | .res_2_mhl => [0xCB#8, 0x96#8]
  | .res_2_a => [0xCB#8, 0x97#8]
  | .res_3_b => [0xCB#8, 0x98#8]
  | .res_3_c => [0xCB#8, 0x99#8]
  | .res_3_d => [0xCB#8, 0x9A#8]
  | .res_3_e => [0xCB#8, 0x9B#8]
  | .res_3_h => [0xCB#8, 0x9C#8]
  | .res_3_l => [0xCB#8, 0x9D#8]
  | .res_3_mhl => [0xCB#8, 0x9E#8]
  | .res_3_a => [0xCB#8, 0x9F#8]
  | .res_4_b => [0xCB#8, 0xA0#8]
  | .res_4_c => [0xCB#8, 0xA1#8]
  | .res_4_d => [0xCB#8, 0xA2#8]
  | .res_4_e => [0xCB#8, 0xA3#8]
  | .res_4_h => [0xCB#8, 0xA4#8]
  | .res_4_l => [0xCB#8, 0xA5#8]
  | .res_4_mhl => [0xCB#8, 0xA6#8]
  | .res_4_a => [0xCB#8, 0xA7#8]
  | .res_5_b => [0xCB#8, 0xA8#8]
  | .res_5_c => [0xCB#8, 0xA9#8]
  | .res_5_d => [0xCB#8, 0xAA#8]
  | .res_5_e => [0xCB#8, 0xAB#8]
  | .res_5_h => [0xCB#8, 0xAC#8]
  | .res_5_l => [0xCB#8, 0xAD#8]
  | .res_5_mhl => [0xCB#8, 0xAE#8]
  | .res_5_a => [0xCB#8, 0xAF#8]
  | .res_6_b => [0xCB#8, 0xB0#8]
  | .res_6_c => [0xCB#8, 0xB1#8]
  | .res_6_d => [0xCB#8, 0xB2#8]
  | .res_6_e => [0xCB#8, 0xB3#8]
  | .res_6_h => [0xCB#8, 0xB4#8]
  | .res_6_l => [0xCB#8, 0xB5#8]
  | .res_6_mhl => [0xCB#8, 0xB6#8]
  | .res_6_a => [0xCB#8, 0xB7#8]
  | .res_7_b => [0xCB#8, 0xB8#8]
  | .res_7_c => [0xCB#8, 0xB9#8]
  | .res_7_d => [0xCB#8, 0xBA#8]
  | .res_7_e => [0xCB#8, 0xBB#8]
  | .res_7_h => [0xCB#8, 0xBC#8]
  | .res_7_l => [0xCB#8, 0xBD#8]
  | .res_7_mhl => [0xCB#8, 0xBE#8]
  | .res_7_a => [0xCB#8, 0xBF#8]
  | .set_0_b => [0xCB#8, 0xC0#8]
  | .set_0_c => [0xCB#8, 0xC1#8]
  | .set_0_d => [0xCB#8, 0xC2#8]
  | .set_0_e => [0xCB#8, 0xC3#8]
  | .set_0_h => [0xCB#8, 0xC4#8]
  | .set_0_l => [0xCB#8, 0xC5#8]
  | .set_0_mhl => [0xCB#8, 0xC6#8]
  | .set_0_a => [0xCB#8, 0xC7#8]
  | .set_1_b => [0xCB#8, 0xC8#8]
  | .set_1_c => [0xCB#8, 0xC9#8]
  | .set_1_d => [0xCB#8, 0xCA#8]
  | .set_1_e => [0xCB#8, 0xCB#8]
  | .set_1_h => [0xCB#8, 0xCC#8]
  | .set_1_l => [0xCB#8, 0xCD#8]
  | .set_1_mhl => [0xCB#8, 0xCE#8]
  | .set_1_a => [0xCB#8, 0xCF#8]
  | .set_2_b => [0xCB#8, 0xD0#8]
  | .set_2_c => [0xCB#8, 0xD1#8]
  | .set_2_d => [0xCB#8, 0xD2#8]
  | .set_2_e => [0xCB#8, 0xD3#8]
  | .set_2_h => [0xCB#8, 0xD4#8]
  | .set_2_l => [0xCB#8, 0xD5#8]
  | .set_2_mhl => [0xCB#8, 0xD6#8]
  | .set_2_a => [0xCB#8, 0xD7#8]
  | .set_3_b => [0xCB#8, 0xD8#8]
  | .set_3_c => [0xCB#8, 0xD9#8]
  | .set_3_d => [0xCB#8, 0xDA#8]
  | .set_3_e => [0xCB#8, 0xDB#8]
  | .set_3_h => [0xCB#8, 0xDC#8]
  | .set_3_l => [0xCB#8, 0xDD#8]
  | .set_3_mhl => [0xCB#8, 0xDE#8]
  | .set_3_a => [0xCB#8, 0xDF#8]
  | .set_4_b => [0xCB#8, 0xE0#8]
  | .set_4_c => [0xCB#8, 0xE1#8]
  | .set_4_d => [0xCB#8, 0xE2#8]
  | .set_4_e => [0xCB#8, 0xE3#8]
  | .set_4_h => [0xCB#8, 0xE4#8]
  | .set_4_l => [0xCB#8, 0xE5#8]
  | .set_4_mhl => [0xCB#8, 0xE6#8]
  | .set_4_a => [0xCB#8, 0xE7#8]
  | .set_5_b => [0xCB#8, 0xE8#8]
  | .set_5_c => [0xCB#8, 0xE9#8]
  | .set_5_d => [0xCB#8, 0xEA#8]
  | .set_5_e => [0xCB#8, 0xEB#8]
  | .set_5_h => [0xCB#8, 0xEC#8]
  | .set_5_l => [0xCB#8, 0xED#8]
  | .set_5_mhl => [0xCB#8, 0xEE#8]
  | .set_5_a => [0xCB#8, 0xEF#8]
  | .set_6_b => [0xCB#8, 0xF0#8]
  | .set_6_c => [0xCB#8, 0xF1#8]
  | .set_6_d => [0xCB#8, 0xF2#8]
  | .set_6_e => [0xCB#8, 0xF3#8]
  | .set_6_h => [0xCB#8, 0xF4#8]
  | .set_6_l => [0xCB#8, 0xF5#8]
  | .set_6_mhl => [0xCB#8, 0xF6#8]
  | .set_6_a => [0xCB#8, 0xF7#8]
  | .set_7_b => [0xCB#8, 0xF8#8]
  | .set_7_c => [0xCB#8, 0xF9#8]
  | .set_7_d => [0xCB#8, 0xFA#8]
  | .set_7_e => [0xCB#8, 0xFB#8]
  | .set_7_h => [0xCB#8, 0xFC#8]
  | .set_7_l => [0xCB#8, 0xFD#8]
  | .set_7_mhl => [0xCB#8, 0xFE#8]
  | .set_7_a => [0xCB#8, 0xFF#8]

end Sys2Proof
end

