-- ==== Sys2Proof/Machine/Fetch.lean ====
section
/-! DEFINITION. Fetching one instruction through the bus (60_exceptions.md R310 step 2), and placing one where it will be
fetched. -/

namespace Sys2Proof.Machine

/-- Fetch the operand bytes of an instruction of `n` bytes whose first byte is `op`, and decode it. -/
def fetchOperands (op : Byte) (n : Nat) (s : State) : Res Instr :=
  match n with
  | 1 => .ok (decodeOp op 0 0) s
  | 2 => (fetch8 s).bind fun b1 s => .ok (decodeOp op b1 0) s
  | _ => (fetch8 s).bind fun b1 s => (fetch8 s).bind fun b2 s => .ok (decodeOp op b1 b2) s

/-- `op <- Fetch8()`, then the operand bytes; the pair `(pc0, op)` joins the history (60_exceptions.md R310, R320). -/
def fetchInstr (s : State) : Res Instr :=
  (fetch8 s).bind fun op s => fetchOperands op (instrLength op) (recordHistory op s)

/-- A place that holds a byte of program: a ROM, a RAM. -/
def Target.holdsCode : Target → Bool
  | .boot _ => true
  | .cart n => decide (n < 0x8000)
  | .vram _ => true
  | .wram _ => true
  | .oam _ => true
  | .hram _ => true
  | .reserved => false
  | .io _ => false
  | .port _ => false
  | .ie => false
  | .uncovered => false

/-- Put `v` in the store that a fetch from place `t` reads. -/
def placeByte (t : Target) (v : Byte) (s : State) : State :=
  match t with
  | .boot i => { s with cfg.bootRom := Memory.write s.cfg.bootRom i v }
  | .cart n => { s with cfg.rom := Memory.write s.cfg.rom (romIndex s.cfg s.cart n) v }
  | .vram i => { s with vram := Memory.write s.vram i v }
  | .wram i => { s with wram := Memory.write s.wram i v }
  | .oam i => { s with oam := Memory.write s.oam i v }
  | .hram i => { s with hram := Memory.write s.hram i v }
  | .reserved => s
  | .io _ => s
  | .port _ => s
  | .ie => s
  | .uncovered => s

/-- Put a byte list at bus address `a` and after it. -/
def placeBytes : List Byte → Word → State → State
  | [], _, s => s
  | v :: rest, a, s => placeBytes rest (a + 1) (placeByte (locate s.bootEnabled a) v s)

/-- Where an instruction of up to three bytes can be placed for the next fetch: at `PC`, or at the start of WRAM where
`PC` points at something that holds no program. -/
def codeAddress (s : State) : Word :=
  let pc := s.regs.pc
  if (locate s.bootEnabled pc).holdsCode && (locate s.bootEnabled (pc + 1)).holdsCode
      && (locate s.bootEnabled (pc + 2)).holdsCode then pc
  else 0xC000#16

/-- The machine about to fetch: not faulted, not halted, `PC` at a place that holds program. -/
def readyToFetch (s : State) : State := setPc (codeAddress s) { s with fault := none, irq.halted := false }

end Sys2Proof.Machine
end

