-- ==== Sys2Proof/Machine/Step.lean ====
section
/-! DEFINITION. One call of `Step` (60_exceptions.md R310): one instruction, or one idle M-cycle when halted, followed
by the dispatch check and the delayed enable. -/

namespace Sys2Proof.Machine

def step (s : State) : Host.Outcome State Fault Refusal :=
  match s.fault with
  | some r => .fault (.stepWhileFaulted r)
  | none =>
    let s := beginStep s
    if s.irq.halted then .next (endStep (tickN 4 s))
    else
      match fetchInstr s with
      | .raised s => .next s
      | .ok i s =>
        match exec i s with
        | .next t => .next (endStep (afterEffect (cost i s) t))
        | .fault r => .fault r
        | .refused r => .refused r

/-- `s` with the instruction of a row's word stored where `step` fetches its next instruction (log 14). -/
def State.withFetchWord (s : State) (nbits w : Nat) : State :=
  let s := readyToFetch s
  placeBytes (tableWordBytes nbits w) s.regs.pc s

end Sys2Proof.Machine
end

