-- ==== Sys2Proof/Machine/HostMoves.lean ====
section
/-! DEFINITION. What the host can do between two steps (60_exceptions.md R398), and the reset input
(70_reset_and_hazards.md R400); log 15, 18. -/

namespace Sys2Proof.Machine

/-- The eight buttons (00_scope.md R9). -/
inductive Button where
  | up
  | down
  | left
  | right
  | a
  | b
  | start
  | select
  deriving DecidableEq, Repr

/-- A host move other than ceasing to call `Step`. -/
inductive HostMove where
  | press (which : Button)
  | release (which : Button)
  | readCartRam
  | rst (regs : ResetRegs) (mem : ResetMem)
  deriving DecidableEq, Repr

/-- The effect of a host move: a press sets `IF` bit 4; a release and a read of `CartRam` change nothing of this block;
`rst` puts every element at its reset value whatever the state was, under the unchanged configuration. -/
def hostMove (m : HostMove) (s : State) : State :=
  match m with
  | .press _ => requestInt 0x10#8 s
  | .release _ => s
  | .readCartRam => s
  | .rst regs mem => State.resetWith s.cfg regs mem s.env

/-- What the persistence port shows the host (20_memory.md R110). -/
def cartRamView (s : State) : Memory := s.cart.ram

/-- `faulted` (10_state.md R42). -/
def State.faulted (s : State) : Bool := s.fault.isSome

/-- The fault report: the record and the recent instruction history (60_exceptions.md R320). -/
def faultReport (s : State) : Option (FaultRecord × List HistoryEntry) :=
  match s.fault with
  | none => none
  | some r => some (r, s.history)

end Sys2Proof.Machine
end

