-- ==== Sys2Proof/Safety.lean ====
section
/-! DEFINITION. The terms claims are stated in: the invariants of the machine, what "unchanged" means for registers and
for memory, when the devices are quiet, and what a run of steps may end in. -/

namespace Sys2Proof.Machine

/-! ## Invariants -/

/-- "`F[3:0]` reads as `0b0000` always (hardwired)" (10_state.md R22). -/
def FlagNibbleZero (s : State) : Prop := s.regs.f.extractLsb' 0 4 = 0#4

/-- `dma_offset` counts 0 to 160, and a transfer in progress has a byte left to copy (10_state.md R34). -/
def DmaInRange (s : State) : Prop :=
  s.dma.offset.toNat ≤ 160 ∧ (s.dma.active = true → s.dma.offset.toNat < 160)

/-- Every byte store is in canonical form within its size (10_state.md R40; 20_memory.md R91). -/
def MemoriesCanonical (s : State) : Prop :=
  Memory.wf 8192 s.vram = true ∧ Memory.wf 8192 s.wram = true ∧ Memory.wf 160 s.oam = true ∧
  Memory.wf 127 s.hram = true ∧ Memory.wf s.cfg.cartRamSize s.cart.ram = true

/-- The ranges 10_state.md R39 gives the PPU's counters and lists, and the forced state of a disabled LCD
(60_exceptions.md R371). `winLine` is not among them: R386 takes it out of R39's range (log 23). -/
structure PpuInRange (p : Ppu) : Prop where
  dot_lt        : p.dot < 456
  ly_lt         : p.ly.toNat < 154
  lx_le         : p.lx ≤ 160
  drawing_lx    : p.mode = .drawing → p.lx < 160
  fifo_le       : p.fifo.length ≤ 16
  sprites_le    : p.sprites.length ≤ 10
  fetchX_lt     : p.fetchX < 32
  discard_le    : p.discard ≤ 7
  backup_length : p.spBackup.length = 8
  off_is_idle   : p.lcdOn = false → p.mode = .hblank ∧ p.ly = 0 ∧ p.dot = 0

/-- The cartridge's bank registers within the widths of 20_memory.md R94, R100 and R107; on `MBC1` and `MBC3` the ROM
bank register is never 0 (R94, R100). -/
def BankInRange (s : State) : Prop :=
  match s.cfg.kind with
  | .noMbc => True
  | .mbc1 => s.cart.romBank ≠ 0 ∧ s.cart.romBank.toNat < 32 ∧ s.cart.ramBank.toNat < 4
  | .mbc3 => s.cart.romBank ≠ 0 ∧ s.cart.romBank.toNat < 128
  | .mbc5 => True

/-- "`ime_pending` is `0` at every step boundary" (10_state.md R29), where the machine has not faulted. -/
def NoPendingEnable (s : State) : Prop := s.fault = none → s.irq.imePending = false

/-! ## Frames -/

/-- The registers by name; `f` is the flag register as stored. -/
inductive RegName where
  | a
  | f
  | b
  | c
  | d
  | e
  | h
  | l
  | sp
  | pc
  deriving DecidableEq, Repr

/-- The value of a register, 8-bit ones zero-extended. -/
def State.regOf (s : State) : RegName → Word
  | .a => zext16 s.regs.a
  | .f => zext16 s.regs.f
  | .b => zext16 s.regs.b
  | .c => zext16 s.regs.c
  | .d => zext16 s.regs.d
  | .e => zext16 s.regs.e
  | .h => zext16 s.regs.h
  | .l => zext16 s.regs.l
  | .sp => s.regs.sp
  | .pc => s.regs.pc

/-- The name of an 8-bit register. -/
def Reg8.name : Reg8 → RegName
  | .b => .b
  | .c => .c
  | .d => .d
  | .e => .e
  | .h => .h
  | .l => .l
  | .a => .a

/-- The registers of a pair. -/
def Reg16.names : Reg16 → List RegName
  | .bc => [.b, .c]
  | .de => [.d, .e]
  | .hl => [.h, .l]
  | .sp => [.sp]

/-- The registers of a stack pair. -/
def Reg16Stk.names : Reg16Stk → List RegName
  | .bc => [.b, .c]
  | .de => [.d, .e]
  | .hl => [.h, .l]
  | .af => [.a, .f]

/-- Every register is unchanged except those named. -/
def RegsKept (except : List RegName) (s t : State) : Prop := ∀ x, x ∉ except → t.regOf x = s.regOf x

/-- Every byte the block holds reads as before, by bus address. -/
def MemoryKept (s t : State) : Prop := ∀ a, peek a t = peek a s

/-- Nothing but the register file is changed: no interrupt or device register, no memory, no cartridge register. -/
def OnlyRegsChange (s t : State) : Prop := t = { s with regs := t.regs } ∧ MemoryKept s t

/-- The four flags, and the low nibble of `F` zero (10_state.md R22). -/
def FlagsAre (z n h c : Bool) (t : State) : Prop :=
  t.flagZ = z ∧ t.flagN = n ∧ t.flagH = h ∧ t.flagC = c ∧ FlagNibbleZero t

/-- A bus write to `a` reaches something: not an uncovered address (20_memory.md R83). -/
def Covered (a : Word) : Prop := locate false a ≠ .uncovered

/-- `a` is a byte of VRAM, WRAM, its echo, OAM, HRAM, or `IE`: a place that keeps what is written. -/
def Storage : Target → Bool
  | .vram _ => true
  | .wram _ => true
  | .oam _ => true
  | .hram _ => true
  | .ie => true
  | .boot _ => false
  | .cart _ => false
  | .reserved => false
  | .io _ => false
  | .port _ => false
  | .uncovered => false

/-- A write there changes what no other address reads: every place but the cartridge, whose registers move its
windows, `LCDC`, whose bit 7 moves `LY` and `STAT`, and the boot-disable register, which uncovers ROM. -/
def SelfContained : Target → Bool
  | .cart _ => false
  | .io .lcdc => false
  | .io .bootOff => false
  | _ => true

/-- What one bus write at `a` leaves alone, by the place `a` is routed to: every byte the block holds at an address the
write is not said to reach reads as before. -/
structure StoreFrame (a : Word) (s t : State) : Prop where
  /-- a self-contained place: every address of another place reads as before -/
  selfContained : SelfContained (locate false a) = true → ∀ b, locate false b ≠ locate false a → peek b t = peek b s
  /-- a cartridge address: the cartridge alone changes, and every address outside its windows reads as before -/
  cartOnly : ∀ n, locate false a = .cart n → t = { s with cart := t.cart, env := t.env, outbox := t.outbox } ∧
    ∀ b, (∀ m, locate s.bootEnabled b ≠ .cart m) → peek b t = peek b s
  /-- a byte of cartridge RAM of a legal size: every other address reads as before -/
  cartRam : ∀ n i, locate false a = .cart n → 0xA000 ≤ n → ramWindow s.cfg s.cart n = .ram i →
    s.cfg.cartRamSize % 0x2000 = 0 → ∀ b, b ≠ a → peek b t = peek b s
  /-- a closed RAM window: nothing changes -/
  cartClosed : ∀ n, locate false a = .cart n → 0xA000 ≤ n → ramWindow s.cfg s.cart n = .closed → t = s
  /-- `LCDC`: the PPU alone changes, and every address but `LCDC`, `STAT` and `LY` reads as before -/
  lcdc : locate false a = .io .lcdc → t = { s with ppu := t.ppu } ∧
    ∀ b, b ≠ 0xFF40#16 → b ≠ 0xFF41#16 → b ≠ 0xFF44#16 → peek b t = peek b s
  /-- the boot-disable register: the overlay goes, and every address above it reads as before -/
  bootOff : locate false a = .io .bootOff → t = { s with bootEnabled := false } ∧
    ∀ b : Word, 0x100 ≤ b.toNat → peek b t = peek b s

/-! ## One access -/

/-- A read of `a` delivers `v` and leaves `u`: a byte the block itself holds, with no side effect, or the answer of an
external port, which is a draw (20_memory.md R84). -/
def Reads (a : Word) (s : State) (v : Byte) (u : State) : Prop :=
  (peek a s = some v ∧ u = s) ∨ (locate s.bootEnabled a = .port a ∧ (v, u) = portRead a s)

/-- A write of `v` at `a` turns `s` into `t`: its place takes the write, a place that keeps bytes reads back `v`, and
nothing else changes. -/
structure Stores (a : Word) (v : Byte) (s t : State) : Prop where
  covered : Covered a
  effect  : t = writeTarget (locate false a) v s
  keeps   : Storage (locate false a) = true → peek a t = some v
  keepsCart : ∀ n, locate false a = .cart n → 0xA000 ≤ n → ramWindow s.cfg s.cart n ≠ .closed → peek a t = some v
  frame   : StoreFrame a s t
  cpu     : t.regs = s.regs ∧ t.irq.ime = s.irq.ime ∧ t.irq.imePending = s.irq.imePending ∧
            t.irq.halted = s.irq.halted ∧ t.fault = s.fault ∧ t.clock = s.clock ∧ t.cfg = s.cfg ∧
            t.pc0 = s.pc0 ∧ t.history = s.history

/-- `raise BusFault(a)` from `s`: the fault record and nothing else (60_exceptions.md R320, R322). -/
def busFaulted (a : Word) (s : State) : State := { s with fault := some { kind := .busFault a, pc := s.pc0 } }

/-! ## The stack -/

/-- `Push16(v)` turns `s` into `t`: the high byte at `SP - 1`, then the low byte at `SP - 2` (00_scope.md R14). -/
def Pushes (v : Word) (s t : State) : Prop :=
  ∃ w, Stores (s.regs.sp - 1) (hi8 v) { s with regs.sp := s.regs.sp - 1 } w ∧
    Stores (s.regs.sp - 2) (lo8 v) { w with regs.sp := s.regs.sp - 2 } t

/-- `Push16(v)` raises in `t`, at its first or at its second write; the first write is not undone (60_exceptions.md
R320). -/
def PushFaults (v : Word) (s t : State) : Prop :=
  (¬Covered (s.regs.sp - 1) ∧ t = busFaulted (s.regs.sp - 1) { s with regs.sp := s.regs.sp - 1 }) ∨
  (¬Covered (s.regs.sp - 2) ∧ ∃ w, Stores (s.regs.sp - 1) (hi8 v) { s with regs.sp := s.regs.sp - 1 } w ∧
    t = busFaulted (s.regs.sp - 2) { w with regs.sp := s.regs.sp - 2 })

/-- `Pop16()` delivers `v` and leaves `t`: the low byte from `SP`, then the high byte from `SP + 1` (00_scope.md R14). -/
def Pops (v : Word) (s t : State) : Prop :=
  ∃ lo hi w x, Reads s.regs.sp s lo w ∧ Reads (s.regs.sp + 1) { w with regs.sp := s.regs.sp + 1 } hi x ∧
    v = pair hi lo ∧ t = { x with regs.sp := s.regs.sp + 2 }

/-- `Pop16()` raises in `t`, at its first or at its second read. -/
def PopFaults (s t : State) : Prop :=
  (¬Covered s.regs.sp ∧ t = busFaulted s.regs.sp s) ∨
  (¬Covered (s.regs.sp + 1) ∧ ∃ lo w, Reads s.regs.sp s lo w ∧
    t = busFaulted (s.regs.sp + 1) { w with regs.sp := s.regs.sp + 1 })

/-! ## Devices at rest -/

/-- For the next `n` T-cycles no device changes anything but its clock: no transfer, LCD off, timer disabled, and the
serial port has answered `n` times in advance that it raises nothing. -/
def DevicesQuiet (n : Nat) (s : State) : Prop :=
  s.dma.active = false ∧ s.ppu.lcdOn = false ∧ s.timer.tac.getLsbD 2 = false ∧
  ∃ rest, s.env.bits = List.replicate n false ++ rest

/-- The calls of the audio and the serial port that `n` T-cycles make, newest first (60_exceptions.md R312). -/
def tickCalls : Nat → List PortEvent
  | 0 => []
  | n + 1 => tickCalls n ++ [.serialTick, .audioTick]

/-- The state `n` quiet T-cycles later: the clock, the divider and the serial draws have advanced, and the ticks of the
external ports are recorded. -/
def afterQuiet (n : Nat) (s : State) : State :=
  { s with clock := s.clock + n, timer.divider := s.timer.divider + BitVec.ofNat 16 n,
           env.bits := s.env.bits.drop n, env.count := s.env.count + n,
           outbox := tickCalls n ++ s.outbox }

/-! ## Steps -/

/-- The CPU will execute an instruction in the next step: not faulted, and not halted or about to resume
(60_exceptions.md R310). -/
def Running (s : State) : Prop :=
  s.fault = none ∧ (s.irq.halted = false ∨ s.irq.ifl &&& s.irq.ie ≠ 0x00#8)

/-- The bytes `bs` lie at bus address `a` and after it, in places the block itself holds. -/
def BytesAt (s : State) : Word → List Byte → Prop
  | _, [] => True
  | a, v :: rest => peek a s = some v ∧ BytesAt s (a + 1) rest

/-- The state an instruction of `n` bytes with first byte `op` is executed from: `pc0` set, `halted` clear, `PC` past
its bytes, its history entry made (60_exceptions.md R310; 10_state.md R26). -/
def fetched (op : Byte) (n : Nat) (s : State) : State :=
  setPc (s.regs.pc + BitVec.ofNat 16 n) (recordHistory op { s with pc0 := s.regs.pc, irq.halted := false })

/-- A step that ends in a next state. -/
def Steps (s t : State) : Prop := step s = .next t

/-- A run ended safely: it reached a next state, and not by a fatal fault. -/
def SafeEnd (s : State) : Prop := s.fault = none

end Sys2Proof.Machine
end

