-- ==== Sys2Proof/Families.lean ====
section
/-! DEFINITION. The instruction families as functions of their operand fields (30_encoding.md R124 to R131), so that one
statement can speak of every constructor of a family. Nothing here has a meaning of its own: each line names a constructor. -/

namespace Sys2Proof.Machine

/-! ## Loads -/

/-- `LD r,r'`: destination, source. -/
def ldRR : Reg8 → Reg8 → Instr
  | .b, .b => .ld_b_b
  | .b, .c => .ld_b_c
  | .b, .d => .ld_b_d
  | .b, .e => .ld_b_e
  | .b, .h => .ld_b_h
  | .b, .l => .ld_b_l
  | .b, .a => .ld_b_a
  | .c, .b => .ld_c_b
  | .c, .c => .ld_c_c
  | .c, .d => .ld_c_d
  | .c, .e => .ld_c_e
  | .c, .h => .ld_c_h
  | .c, .l => .ld_c_l
  | .c, .a => .ld_c_a
  | .d, .b => .ld_d_b
  | .d, .c => .ld_d_c
  | .d, .d => .ld_d_d
  | .d, .e => .ld_d_e
  | .d, .h => .ld_d_h
  | .d, .l => .ld_d_l
  | .d, .a => .ld_d_a
  | .e, .b => .ld_e_b
  | .e, .c => .ld_e_c
  | .e, .d => .ld_e_d
  | .e, .e => .ld_e_e
  | .e, .h => .ld_e_h
  | .e, .l => .ld_e_l
  | .e, .a => .ld_e_a
  | .h, .b => .ld_h_b
  | .h, .c => .ld_h_c
  | .h, .d => .ld_h_d
  | .h, .e => .ld_h_e
  | .h, .h => .ld_h_h
  | .h, .l => .ld_h_l
  | .h, .a => .ld_h_a
  | .l, .b => .ld_l_b
  | .l, .c => .ld_l_c
  | .l, .d => .ld_l_d
  | .l, .e => .ld_l_e
  | .l, .h => .ld_l_h
  | .l, .l => .ld_l_l
  | .l, .a => .ld_l_a
  | .a, .b => .ld_a_b
  | .a, .c => .ld_a_c
  | .a, .d => .ld_a_d
  | .a, .e => .ld_a_e
  | .a, .h => .ld_a_h
  | .a, .l => .ld_a_l
  | .a, .a => .ld_a_a

/-- `LD r,n`. -/
def ldRImm : Reg8 → Byte → Instr
  | .b, n => .ld_b_n n
  | .c, n => .ld_c_n n
  | .d, n => .ld_d_n n
  | .e, n => .ld_e_n n
  | .h, n => .ld_h_n n
  | .l, n => .ld_l_n n
  | .a, n => .ld_a_n n

/-- `LD r,(HL)`. -/
def ldRHl : Reg8 → Instr
  | .b => .ld_b_mhl
  | .c => .ld_c_mhl
  | .d => .ld_d_mhl
  | .e => .ld_e_mhl
  | .h => .ld_h_mhl
  | .l => .ld_l_mhl
  | .a => .ld_a_mhl

/-- `LD (HL),r`. -/
def ldHlR : Reg8 → Instr
  | .b => .ld_mhl_b
  | .c => .ld_mhl_c
  | .d => .ld_mhl_d
  | .e => .ld_mhl_e
  | .h => .ld_mhl_h
  | .l => .ld_mhl_l
  | .a => .ld_mhl_a

/-- The addresses that an 8-bit load of `A` or a store of `A` can name, `(HL)` apart. -/
inductive AAddr where
  | bc
  | de
  | abs (nn : Word)
  | high (n : Byte)
  | highC
  deriving DecidableEq, Repr

/-- The address itself. -/
def AAddr.at (x : AAddr) (s : State) : Word :=
  match x with
  | .bc => s.bc
  | .de => s.de
  | .abs nn => nn
  | .high n => 0xFF00#16 + n.setWidth 16
  | .highC => 0xFF00#16 + s.regs.c.setWidth 16

/-- `LD A,(BC)`, `LD A,(DE)`, `LD A,(nn)`, `LDH A,(n)`, `LDH A,(C)`. -/
def ldA : AAddr → Instr
  | .bc => .ld_a_mbc
  | .de => .ld_a_mde
  | .abs nn => .ld_a_mnn nn
  | .high n => .ldh_a_mn n
  | .highC => .ldh_a_mc

/-- `LD (BC),A`, `LD (DE),A`, `LD (nn),A`, `LDH (n),A`, `LDH (C),A`. -/
def stA : AAddr → Instr
  | .bc => .ld_mbc_a
  | .de => .ld_mde_a
  | .abs nn => .ld_mnn_a nn
  | .high n => .ldh_mn_a n
  | .highC => .ldh_mc_a

/-- `LD A,(HL+)` when `up`, `LD A,(HL-)` when not. -/
def ldAMove : Bool → Instr
  | true => .ld_a_mhli
  | false => .ld_a_mhld

/-- `LD (HL+),A` when `up`, `LD (HL-),A` when not. -/
def stAMove : Bool → Instr
  | true => .ld_mhli_a
  | false => .ld_mhld_a

/-! ## Register pairs -/

/-- `LD rr,nn`. -/
def ldPair : Reg16 → Word → Instr
  | .bc, nn => .ld_bc_nn nn
  | .de, nn => .ld_de_nn nn
  | .hl, nn => .ld_hl_nn nn
  | .sp, nn => .ld_sp_nn nn

/-- `PUSH rr`. -/
def pushOf : Reg16Stk → Instr
  | .bc => .push_bc
  | .de => .push_de
  | .hl => .push_hl
  | .af => .push_af

/-- `POP rr`. -/
def popOf : Reg16Stk → Instr
  | .bc => .pop_bc
  | .de => .pop_de
  | .hl => .pop_hl
  | .af => .pop_af

/-- `ADD HL,rr`. -/
def addHlOf : Reg16 → Instr
  | .bc => .add_hl_bc
  | .de => .add_hl_de
  | .hl => .add_hl_hl
  | .sp => .add_hl_sp

/-- `INC rr`. -/
def incPairOf : Reg16 → Instr
  | .bc => .inc_bc
  | .de => .inc_de
  | .hl => .inc_hl
  | .sp => .inc_sp

/-- `DEC rr`. -/
def decPairOf : Reg16 → Instr
  | .bc => .dec_bc
  | .de => .dec_de
  | .hl => .dec_hl
  | .sp => .dec_sp

/-! ## 8-bit arithmetic and logic -/

/-- The second operand of an ALU instruction. -/
inductive AluSrc where
  | reg (r : Reg8)
  | mem
  | imm (n : Byte)
  deriving DecidableEq, Repr

/-- What the operand delivers: the value `v`, and the state `u` after it is read. -/
def AluSrc.Delivers (x : AluSrc) (s : State) (v : Byte) (u : State) : Prop :=
  match x with
  | .reg r => v = s.reg8 r ∧ u = s
  | .mem => Reads s.hl s v u
  | .imm n => v = n ∧ u = s

/-- `ADD ADC SUB SBC AND XOR OR CP` with every operand form. -/
def aluInstr : AluOp → AluSrc → Instr
  | .add, .reg .b => .add_a_b
  | .add, .reg .c => .add_a_c
  | .add, .reg .d => .add_a_d
  | .add, .reg .e => .add_a_e
  | .add, .reg .h => .add_a_h
  | .add, .reg .l => .add_a_l
  | .add, .reg .a => .add_a_a
  | .add, .mem => .add_a_mhl
  | .add, .imm n => .add_a_n n
  | .adc, .reg .b => .adc_a_b
  | .adc, .reg .c => .adc_a_c
  | .adc, .reg .d => .adc_a_d
  | .adc, .reg .e => .adc_a_e
  | .adc, .reg .h => .adc_a_h
  | .adc, .reg .l => .adc_a_l
  | .adc, .reg .a => .adc_a_a
  | .adc, .mem => .adc_a_mhl
  | .adc, .imm n => .adc_a_n n
  | .sub, .reg .b => .sub_b
  | .sub, .reg .c => .sub_c
  | .sub, .reg .d => .sub_d
  | .sub, .reg .e => .sub_e
  | .sub, .reg .h => .sub_h
  | .sub, .reg .l => .sub_l
  | .sub, .reg .a => .sub_a
  | .sub, .mem => .sub_mhl
  | .sub, .imm n => .sub_n n
  | .sbc, .reg .b => .sbc_a_b
  | .sbc, .reg .c => .sbc_a_c
  | .sbc, .reg .d => .sbc_a_d
  | .sbc, .reg .e => .sbc_a_e
  | .sbc, .reg .h => .sbc_a_h
  | .sbc, .reg .l => .sbc_a_l
  | .sbc, .reg .a => .sbc_a_a
  | .sbc, .mem => .sbc_a_mhl
  | .sbc, .imm n => .sbc_a_n n
  | .and, .reg .b => .and_b
  | .and, .reg .c => .and_c
  | .and, .reg .d => .and_d
  | .and, .reg .e => .and_e
  | .and, .reg .h => .and_h
  | .and, .reg .l => .and_l
  | .and, .reg .a => .and_a
  | .and, .mem => .and_mhl
  | .and, .imm n => .and_n n
  | .xor, .reg .b => .xor_b
  | .xor, .reg .c => .xor_c
  | .xor, .reg .d => .xor_d
  | .xor, .reg .e => .xor_e
  | .xor, .reg .h => .xor_h
  | .xor, .reg .l => .xor_l
  | .xor, .reg .a => .xor_a
  | .xor, .mem => .xor_mhl
  | .xor, .imm n => .xor_n n
  | .or, .reg .b => .or_b
  | .or, .reg .c => .or_c
  | .or, .reg .d => .or_d
  | .or, .reg .e => .or_e
  | .or, .reg .h => .or_h
  | .or, .reg .l => .or_l
  | .or, .reg .a => .or_a
  | .or, .mem => .or_mhl
  | .or, .imm n => .or_n n
  | .cp, .reg .b => .cp_b
  | .cp, .reg .c => .cp_c
  | .cp, .reg .d => .cp_d
  | .cp, .reg .e => .cp_e
  | .cp, .reg .h => .cp_h
  | .cp, .reg .l => .cp_l
  | .cp, .reg .a => .cp_a
  | .cp, .mem => .cp_mhl
  | .cp, .imm n => .cp_n n

/-- `INC r`. -/
def incOf : Reg8 → Instr
  | .b => .inc_b
  | .c => .inc_c
  | .d => .inc_d
  | .e => .inc_e
  | .h => .inc_h
  | .l => .inc_l
  | .a => .inc_a

/-- `DEC r`. -/
def decOf : Reg8 → Instr
  | .b => .dec_b
  | .c => .dec_c
  | .d => .dec_d
  | .e => .dec_e
  | .h => .dec_h
  | .l => .dec_l
  | .a => .dec_a

/-! ## Rotates, shifts, bits -/

/-- The CB-page shift of a register. -/
def shiftOf : ShiftOp → Reg8 → Instr
  | .rlc, .b => .rlc_b
  | .rlc, .c => .rlc_c
  | .rlc, .d => .rlc_d
  | .rlc, .e => .rlc_e
  | .rlc, .h => .rlc_h
  | .rlc, .l => .rlc_l
  | .rlc, .a => .rlc_a
  | .rrc, .b => .rrc_b
  | .rrc, .c => .rrc_c
  | .rrc, .d => .rrc_d
  | .rrc, .e => .rrc_e
  | .rrc, .h => .rrc_h
  | .rrc, .l => .rrc_l
  | .rrc, .a => .rrc_a
  | .rl, .b => .rl_b
  | .rl, .c => .rl_c
  | .rl, .d => .rl_d
  | .rl, .e => .rl_e
  | .rl, .h => .rl_h
  | .rl, .l => .rl_l
  | .rl, .a => .rl_a
  | .rr, .b => .rr_b
  | .rr, .c => .rr_c
  | .rr, .d => .rr_d
  | .rr, .e => .rr_e
  | .rr, .h => .rr_h
  | .rr, .l => .rr_l
  | .rr, .a => .rr_a
  | .sla, .b => .sla_b
  | .sla, .c => .sla_c
  | .sla, .d => .sla_d
  | .sla, .e => .sla_e
  | .sla, .h => .sla_h
  | .sla, .l => .sla_l
  | .sla, .a => .sla_a
  | .sra, .b => .sra_b
  | .sra, .c => .sra_c
  | .sra, .d => .sra_d
  | .sra, .e => .sra_e
  | .sra, .h => .sra_h
  | .sra, .l => .sra_l
  | .sra, .a => .sra_a
  | .swap, .b => .swap_b
  | .swap, .c => .swap_c
  | .swap, .d => .swap_d
  | .swap, .e => .swap_e
  | .swap, .h => .swap_h
  | .swap, .l => .swap_l
  | .swap, .a => .swap_a
  | .srl, .b => .srl_b
  | .srl, .c => .srl_c
  | .srl, .d => .srl_d
  | .srl, .e => .srl_e
  | .srl, .h => .srl_h
  | .srl, .l => .srl_l
  | .srl, .a => .srl_a

/-- The CB-page shift of `(HL)`. -/
def shiftHlOf : ShiftOp → Instr
  | .rlc => .rlc_mhl
  | .rrc => .rrc_mhl
  | .rl => .rl_mhl
  | .rr => .rr_mhl
  | .sla => .sla_mhl
  | .sra => .sra_mhl
  | .swap => .swap_mhl
  | .srl => .srl_mhl

/-- A bit index `bbb`. -/
inductive BitNo where
  | b0
  | b1
  | b2
  | b3
  | b4
  | b5
  | b6
  | b7
  deriving DecidableEq, Repr

/-- Its value. -/
def BitNo.val : BitNo → Nat
  | .b0 => 0
  | .b1 => 1
  | .b2 => 2
  | .b3 => 3
  | .b4 => 4
  | .b5 => 5
  | .b6 => 6
  | .b7 => 7

/-- `BIT b,r`. -/
def bitTestOf : BitNo → Reg8 → Instr
  | .b0, .b => .bit_0_b
  | .b0, .c => .bit_0_c
  | .b0, .d => .bit_0_d
  | .b0, .e => .bit_0_e
  | .b0, .h => .bit_0_h
  | .b0, .l => .bit_0_l
  | .b0, .a => .bit_0_a
  | .b1, .b => .bit_1_b
  | .b1, .c => .bit_1_c
  | .b1, .d => .bit_1_d
  | .b1, .e => .bit_1_e
  | .b1, .h => .bit_1_h
  | .b1, .l => .bit_1_l
  | .b1, .a => .bit_1_a
  | .b2, .b => .bit_2_b
  | .b2, .c => .bit_2_c
  | .b2, .d => .bit_2_d
  | .b2, .e => .bit_2_e
  | .b2, .h => .bit_2_h
  | .b2, .l => .bit_2_l
  | .b2, .a => .bit_2_a
  | .b3, .b => .bit_3_b
  | .b3, .c => .bit_3_c
  | .b3, .d => .bit_3_d
  | .b3, .e => .bit_3_e
  | .b3, .h => .bit_3_h
  | .b3, .l => .bit_3_l
  | .b3, .a => .bit_3_a
  | .b4, .b => .bit_4_b
  | .b4, .c => .bit_4_c
  | .b4, .d => .bit_4_d
  | .b4, .e => .bit_4_e
  | .b4, .h => .bit_4_h
  | .b4, .l => .bit_4_l
  | .b4, .a => .bit_4_a
  | .b5, .b => .bit_5_b
  | .b5, .c => .bit_5_c
  | .b5, .d => .bit_5_d
  | .b5, .e => .bit_5_e
  | .b5, .h => .bit_5_h
  | .b5, .l => .bit_5_l
  | .b5, .a => .bit_5_a
  | .b6, .b => .bit_6_b
  | .b6, .c => .bit_6_c
  | .b6, .d => .bit_6_d
  | .b6, .e => .bit_6_e
  | .b6, .h => .bit_6_h
  | .b6, .l => .bit_6_l
  | .b6, .a => .bit_6_a
  | .b7, .b => .bit_7_b
  | .b7, .c => .bit_7_c
  | .b7, .d => .bit_7_d
  | .b7, .e => .bit_7_e
  | .b7, .h => .bit_7_h
  | .b7, .l => .bit_7_l
  | .b7, .a => .bit_7_a

/-- `BIT b,(HL)`. -/
def bitTestHlOf : BitNo → Instr
  | .b0 => .bit_0_mhl
  | .b1 => .bit_1_mhl
  | .b2 => .bit_2_mhl
  | .b3 => .bit_3_mhl
  | .b4 => .bit_4_mhl
  | .b5 => .bit_5_mhl
  | .b6 => .bit_6_mhl
  | .b7 => .bit_7_mhl

/-- `RES b,r`. -/
def bitResOf : BitNo → Reg8 → Instr
  | .b0, .b => .res_0_b
  | .b0, .c => .res_0_c
  | .b0, .d => .res_0_d
  | .b0, .e => .res_0_e
  | .b0, .h => .res_0_h
  | .b0, .l => .res_0_l
  | .b0, .a => .res_0_a
  | .b1, .b => .res_1_b
  | .b1, .c => .res_1_c
  | .b1, .d => .res_1_d
  | .b1, .e => .res_1_e
  | .b1, .h => .res_1_h
  | .b1, .l => .res_1_l
  | .b1, .a => .res_1_a
  | .b2, .b => .res_2_b
  | .b2, .c => .res_2_c
  | .b2, .d => .res_2_d
  | .b2, .e => .res_2_e
  | .b2, .h => .res_2_h
  | .b2, .l => .res_2_l
  | .b2, .a => .res_2_a
  | .b3, .b => .res_3_b
  | .b3, .c => .res_3_c
  | .b3, .d => .res_3_d
  | .b3, .e => .res_3_e
  | .b3, .h => .res_3_h
  | .b3, .l => .res_3_l
  | .b3, .a => .res_3_a
  | .b4, .b => .res_4_b
  | .b4, .c => .res_4_c
  | .b4, .d => .res_4_d
  | .b4, .e => .res_4_e
  | .b4, .h => .res_4_h
  | .b4, .l => .res_4_l
  | .b4, .a => .res_4_a
  | .b5, .b => .res_5_b
  | .b5, .c => .res_5_c
  | .b5, .d => .res_5_d
  | .b5, .e => .res_5_e
  | .b5, .h => .res_5_h
  | .b5, .l => .res_5_l
  | .b5, .a => .res_5_a
  | .b6, .b => .res_6_b
  | .b6, .c => .res_6_c
  | .b6, .d => .res_6_d
  | .b6, .e => .res_6_e
  | .b6, .h => .res_6_h
  | .b6, .l => .res_6_l
  | .b6, .a => .res_6_a
  | .b7, .b => .res_7_b
  | .b7, .c => .res_7_c
  | .b7, .d => .res_7_d
  | .b7, .e => .res_7_e
  | .b7, .h => .res_7_h
  | .b7, .l => .res_7_l
  | .b7, .a => .res_7_a

/-- `RES b,(HL)`. -/
def bitResHlOf : BitNo → Instr
  | .b0 => .res_0_mhl
  | .b1 => .res_1_mhl
  | .b2 => .res_2_mhl
  | .b3 => .res_3_mhl
  | .b4 => .res_4_mhl
  | .b5 => .res_5_mhl
  | .b6 => .res_6_mhl
  | .b7 => .res_7_mhl

/-- `SET b,r`. -/
def bitSetOf : BitNo → Reg8 → Instr
  | .b0, .b => .set_0_b
  | .b0, .c => .set_0_c
  | .b0, .d => .set_0_d
  | .b0, .e => .set_0_e
  | .b0, .h => .set_0_h
  | .b0, .l => .set_0_l
  | .b0, .a => .set_0_a
  | .b1, .b => .set_1_b
  | .b1, .c => .set_1_c
  | .b1, .d => .set_1_d
  | .b1, .e => .set_1_e
  | .b1, .h => .set_1_h
  | .b1, .l => .set_1_l
  | .b1, .a => .set_1_a
  | .b2, .b => .set_2_b
  | .b2, .c => .set_2_c
  | .b2, .d => .set_2_d
  | .b2, .e => .set_2_e
  | .b2, .h => .set_2_h
  | .b2, .l => .set_2_l
  | .b2, .a => .set_2_a
  | .b3, .b => .set_3_b
  | .b3, .c => .set_3_c
  | .b3, .d => .set_3_d
  | .b3, .e => .set_3_e
  | .b3, .h => .set_3_h
  | .b3, .l => .set_3_l
  | .b3, .a => .set_3_a
  | .b4, .b => .set_4_b
  | .b4, .c => .set_4_c
  | .b4, .d => .set_4_d
  | .b4, .e => .set_4_e
  | .b4, .h => .set_4_h
  | .b4, .l => .set_4_l
  | .b4, .a => .set_4_a
  | .b5, .b => .set_5_b
  | .b5, .c => .set_5_c
  | .b5, .d => .set_5_d
  | .b5, .e => .set_5_e
  | .b5, .h => .set_5_h
  | .b5, .l => .set_5_l
  | .b5, .a => .set_5_a
  | .b6, .b => .set_6_b
  | .b6, .c => .set_6_c
  | .b6, .d => .set_6_d
  | .b6, .e => .set_6_e
  | .b6, .h => .set_6_h
  | .b6, .l => .set_6_l
  | .b6, .a => .set_6_a
  | .b7, .b => .set_7_b
  | .b7, .c => .set_7_c
  | .b7, .d => .set_7_d
  | .b7, .e => .set_7_e
  | .b7, .h => .set_7_h
  | .b7, .l => .set_7_l
  | .b7, .a => .set_7_a

/-- `SET b,(HL)`. -/
def bitSetHlOf : BitNo → Instr
  | .b0 => .set_0_mhl
  | .b1 => .set_1_mhl
  | .b2 => .set_2_mhl
  | .b3 => .set_3_mhl
  | .b4 => .set_4_mhl
  | .b5 => .set_5_mhl
  | .b6 => .set_6_mhl
  | .b7 => .set_7_mhl

/-! ## Control -/

/-- `JP cc,nn`. -/
def jpIfOf : Cond → Word → Instr
  | .nz, nn => .jp_nz_nn nn
  | .z, nn => .jp_z_nn nn
  | .nc, nn => .jp_nc_nn nn
  | .c, nn => .jp_c_nn nn

/-- `JR cc,e`. -/
def jrIfOf : Cond → Byte → Instr
  | .nz, e => .jr_nz_e e
  | .z, e => .jr_z_e e
  | .nc, e => .jr_nc_e e
  | .c, e => .jr_c_e e

/-- `CALL cc,nn`. -/
def callIfOf : Cond → Word → Instr
  | .nz, nn => .call_nz_nn nn
  | .z, nn => .call_z_nn nn
  | .nc, nn => .call_nc_nn nn
  | .c, nn => .call_c_nn nn

/-- `RET cc`. -/
def retIfOf : Cond → Instr
  | .nz => .ret_nz
  | .z => .ret_z
  | .nc => .ret_nc
  | .c => .ret_c

/-- `RST t`, by the field `ttt`. -/
def rstOf : BitNo → Instr
  | .b0 => .rst_00
  | .b1 => .rst_08
  | .b2 => .rst_10
  | .b3 => .rst_18
  | .b4 => .rst_20
  | .b5 => .rst_28
  | .b6 => .rst_30
  | .b7 => .rst_38

/-- The eleven opcode bytes that spell no instruction, with their constructors (30_encoding.md R132). -/
def unknownOpcodes : List (Byte × Instr) :=
  [(0xD3#8, .illegal_d3), (0xDB#8, .illegal_db), (0xDD#8, .illegal_dd), (0xE3#8, .illegal_e3), (0xE4#8, .illegal_e4), (0xEB#8, .illegal_eb),
   (0xEC#8, .illegal_ec), (0xED#8, .illegal_ed), (0xF4#8, .illegal_f4), (0xFC#8, .illegal_fc), (0xFD#8, .illegal_fd)]

/-! ## The fields in an opcode (30_encoding.md R124 to R128) -/

/-- `r8`. -/
def Reg8.code : Reg8 → BitVec 3
  | .b => 0
  | .c => 1
  | .d => 2
  | .e => 3
  | .h => 4
  | .l => 5
  | .a => 7

/-- `r16`. -/
def Reg16.code : Reg16 → BitVec 2
  | .bc => 0
  | .de => 1
  | .hl => 2
  | .sp => 3

/-- `r16stk`. -/
def Reg16Stk.code : Reg16Stk → BitVec 2
  | .bc => 0
  | .de => 1
  | .hl => 2
  | .af => 3

/-- `cc`. -/
def Cond.code : Cond → BitVec 2
  | .nz => 0
  | .z => 1
  | .nc => 2
  | .c => 3

/-- `aaa`. -/
def AluOp.code : AluOp → BitVec 3
  | .add => 0
  | .adc => 1
  | .sub => 2
  | .sbc => 3
  | .and => 4
  | .xor => 5
  | .or => 6
  | .cp => 7

/-- The rotate and shift field. -/
def ShiftOp.code : ShiftOp → BitVec 3
  | .rlc => 0
  | .rrc => 1
  | .rl => 2
  | .rr => 3
  | .sla => 4
  | .sra => 5
  | .swap => 6
  | .srl => 7

/-- `bbb`, or `ttt`. -/
def BitNo.code (b : BitNo) : BitVec 3 := BitVec.ofNat 3 b.val

/-! ## Forms -/

/-- Encoding and cost of an ALU instruction (42_alu8.md R196 to R219). -/
def AluForm (k : AluOp) (x : AluSrc) (s : State) : Prop :=
  match x with
  | .reg r => encode (aluInstr k x) = [0b10#2 ++ k.code ++ r.code] ∧ cost (aluInstr k x) s = 4
  | .mem => encode (aluInstr k x) = [0b10#2 ++ k.code ++ 0b110#3] ∧ cost (aluInstr k x) s = 8
  | .imm n => encode (aluInstr k x) = [0b11#2 ++ k.code ++ 0b110#3, n] ∧ cost (aluInstr k x) s = 8

/-- The bit `i` of the result of a rotate or shift of `v` with old carry `cin`, bit by bit as the comments of
44_rotate_shift_bit.md R250 say. -/
def ShiftOp.resultBit (k : ShiftOp) (v : Byte) (cin : Bool) (i : Nat) : Bool :=
  match k with
  | .rlc => bitAt v ((i + 7) % 8)
  | .rrc => bitAt v ((i + 1) % 8)
  | .rl => if i = 0 then cin else bitAt v (i - 1)
  | .rr => if i = 7 then cin else bitAt v (i + 1)
  | .sla => if i = 0 then false else bitAt v (i - 1)
  | .sra => if i = 7 then bitAt v 7 else bitAt v (i + 1)
  | .swap => bitAt v ((i + 4) % 8)
  | .srl => if i = 7 then false else bitAt v (i + 1)

/-- The bit moved out (R250). -/
def ShiftOp.bitOut (k : ShiftOp) (v : Byte) : Bool :=
  match k with
  | .rlc => bitAt v 7
  | .rrc => bitAt v 0
  | .rl => bitAt v 7
  | .rr => bitAt v 0
  | .sla => bitAt v 7
  | .sra => bitAt v 0
  | .swap => false
  | .srl => bitAt v 0

end Sys2Proof.Machine
end

