-- ==== Sys2Proof/Certificates/Slice0/Obligations.lean ====
section
/-! DEFINITION. The statements for the provers. Each docstring names the rules it formalises. -/

open Sys2Proof Sys2Proof.Machine

/-! ## Encoding -/

/-- Every instruction, at every value of its operands, is read back from its own words, whatever follows them. -/
def Obligations.DecodeReadsBackEveryEncoding : Prop :=
  ∀ (i : Instr) (rest : List Byte), WellFormed i = true → decode (encode i ++ rest) = .ok (i, rest)

/-- What the decoder reads is an instruction whose words are exactly the bytes it consumed. -/
def Obligations.EncodeReadsBackEveryDecoding : Prop :=
  ∀ (bytes : List Byte) (i : Instr) (rest : List Byte), decode bytes = .ok (i, rest) →
    WellFormed i = true ∧ encode i ++ rest = bytes

/-- R138: the length by the first byte; the decoder takes that many bytes, and stops by name only when there are
fewer. R138 is marked [derived] there, its values from general knowledge. -/
def Obligations.LengthIsGivenByTheFirstByte : Prop :=
  ∀ (op : Byte) (rest : List Byte),
    let n := if op ∈ [0x01#8, 0x11#8, 0x21#8, 0x31#8, 0x08#8, 0xC2#8, 0xC3#8, 0xC4#8, 0xCA#8, 0xCC#8, 0xCD#8, 0xD2#8,
                      0xD4#8, 0xDA#8, 0xDC#8, 0xEA#8, 0xFA#8] then 3
             else if op ∈ [0x06#8, 0x0E#8, 0x16#8, 0x1E#8, 0x26#8, 0x2E#8, 0x36#8, 0x3E#8, 0x10#8, 0x18#8, 0x20#8,
                           0x28#8, 0x30#8, 0x38#8, 0xC6#8, 0xCE#8, 0xD6#8, 0xDE#8, 0xE6#8, 0xEE#8, 0xF6#8, 0xFE#8,
                           0xE0#8, 0xF0#8, 0xE8#8, 0xF8#8, 0xCB#8] then 2
             else 1
    (n ≤ 1 + rest.length →
      ∃ i, decode (op :: rest) = .ok (i, rest.drop (n - 1)) ∧ encode i = op :: rest.take (n - 1)) ∧
    (1 + rest.length < n → decode (op :: rest) = .error (.truncated op n (1 + rest.length)))

/-- A few words written out from the encodings of the instruction rules decode to what they spell. The last two
clauses, and they alone, speak of the table's numbering with zeros above it: log 12, read by inference, the model's
and no rule of the spec. -/
def Obligations.WordsOfTheSpecDecode : Prop :=
  decode [0b01111000#8] = .ok (.ld_a_b, []) ∧
  decode [0b00110110#8, 0x7E#8] = .ok (.ld_mhl_n 0x7E, []) ∧
  decode [0xFA#8, 0x44#8, 0xFF#8] = .ok (.ld_a_mnn 0xFF44, []) ∧
  decode [0x21#8, 0x34#8, 0x12#8] = .ok (.ld_hl_nn 0x1234, []) ∧
  decode [0xF8#8, 0x08#8] = .ok (.ld_hl_sp_e 0x08, []) ∧
  decode [0b10001011#8] = .ok (.adc_a_e, []) ∧
  decode [0b00001001#8] = .ok (.add_hl_bc, []) ∧
  decode [0xCB#8, 0x37#8] = .ok (.swap_a, []) ∧
  decode [0xCB#8, 0xCB#8] = .ok (.set_1_e, []) ∧
  decode [0x20#8, 0xFC#8] = .ok (.jr_nz_e 0xFC, []) ∧
  decode [0b11101111#8] = .ok (.rst_28, []) ∧
  decode [0b01110110#8] = .ok (.halt, []) ∧
  decodeTableWord 16 0xCB37 = some .swap_a ∧
  decodeTableWord 8 0x21 = some (.ld_hl_nn 0)

/-- R305: the prefix is no instruction; with its second byte it is the CB-page instruction that byte selects, in
decoding, in effect and in cost. The constructor `prefixCb` stands for the table's row `PREFIX_CB`: log 8, the model's
choice. -/
def Obligations.PrefixRunsTheCbPageInstruction : Prop :=
  ∀ (b : Byte) (rest : List Byte) (s : State),
    WellFormed (.prefixCb b) = false ∧
    WellFormed (cbInstr b) = true ∧
    encode (cbInstr b) = [0xCB#8, b] ∧
    decode (0xCB#8 :: b :: rest) = .ok (cbInstr b, rest) ∧
    exec (.prefixCb b) s = exec (cbInstr b) s ∧
    cost (.prefixCb b) s = cost (cbInstr b) s ∧
    ∃ t, exec (.prefixCb b) s = .next t

/-! ## Reset -/

/-- R50, R400: `rst` from any state puts every element at its reset value, keeping the configuration; the unspecified
elements take the values of the two parameters. R50 calls every line of its table the spec's own choice (D24); the
counters it leaves out are at zero by log 1. -/
def Obligations.RstPutsEveryElementAtItsResetValue : Prop :=
  ∀ (s : State) (rr : ResetRegs) (rm : ResetMem),
    let t := hostMove (.rst rr rm) s
    (t.regs.pc = 0x0000#16 ∧ t.regs.a = rr.a ∧ t.regs.b = rr.b ∧ t.regs.c = rr.c ∧ t.regs.d = rr.d ∧ t.regs.e = rr.e ∧
      t.regs.h = rr.h ∧ t.regs.l = rr.l ∧ t.regs.sp = rr.sp ∧ t.regs.f.extractLsb' 4 4 = rr.flags ∧
      t.regs.f.extractLsb' 0 4 = 0#4) ∧
    (t.irq.ime = false ∧ t.irq.imePending = false ∧ t.irq.halted = false ∧ t.irq.ifl = 0x00#8 ∧ t.irq.ie = 0x00#8) ∧
    (t.fault = none ∧ t.clock = 0) ∧
    (t.timer.divider = 0x0000#16 ∧ t.timer.tima = 0x00#8 ∧ t.timer.tma = 0x00#8 ∧ t.timer.tac = 0#3) ∧
    (t.dma.active = false ∧ t.dma.src = 0x00#8 ∧ t.dma.offset = 0x00#8) ∧
    t.bootEnabled = true ∧
    (t.ppu.lcdc = 0x00#8 ∧ t.ppu.statEn = 0#4 ∧ t.ppu.scy = 0x00#8 ∧ t.ppu.scx = 0x00#8 ∧ t.ppu.lyc = 0x00#8 ∧
      t.ppu.wy = 0x00#8 ∧ t.ppu.wx = 0x00#8 ∧ t.ppu.bgp = 0x00#8 ∧ t.ppu.obp0 = 0x00#8 ∧ t.ppu.obp1 = 0x00#8 ∧
      t.ppu.ly = 0x00#8 ∧ t.ppu.dot = 0 ∧ t.ppu.lx = 0 ∧ t.ppu.mode = .hblank ∧ t.ppu.coincidence = false ∧
      t.ppu.skipFrame = false) ∧
    (t.ppu.sprites = [] ∧ t.ppu.fifo = [] ∧ t.ppu.spDone = [] ∧ t.ppu.spBackup = List.replicate 8 none ∧
      t.ppu.bgStep = .index ∧ t.ppu.bgWait = false ∧ t.ppu.fetchX = 0 ∧ t.ppu.discard = 0 ∧ t.ppu.inWindow = false ∧
      t.ppu.winLine = 0 ∧ t.ppu.winUsed = false ∧ t.ppu.spActive = false ∧ t.ppu.spStep = .tile ∧
      t.ppu.spWait = false ∧ t.ppu.spCur = 0 ∧ t.ppu.spRow = 0#3 ∧ t.ppu.tileNo = 0 ∧ t.ppu.tileLo = 0 ∧
      t.ppu.tileHi = 0 ∧ t.ppu.scxL = 0 ∧ t.ppu.spTile = 0 ∧ t.ppu.spLo = 0 ∧ t.ppu.spHi = 0) ∧
    (t.vram = rm.vram ∧ t.wram = rm.wram ∧ t.oam = rm.oam ∧ t.hram = rm.hram) ∧
    (t.cart.ramEnable = false ∧ t.cart.romBank = 1#9 ∧ t.cart.ramBank = 0#4 ∧ t.cart.bankMode = false ∧
      t.cart.latchArmed = false ∧ t.cart.rtc = rm.rtc ∧ t.cart.ram = s.cfg.cartRamInit) ∧
    t.cfg = s.cfg

/-- The state after reset, for any configuration and any parameters whose byte stores are in canonical form, meets
every invariant that the statements below prove of steps; so does the model's own `State.reset` (log 1 to 4). The
reset values of `State.reset` that R50 leaves unspecified are the model's (log 1 to 4). -/
def Obligations.ResetMeetsTheInvariants : Prop :=
  (∀ (cfg : Cfg) (rr : ResetRegs) (rm : ResetMem) (env : Env),
    Memory.wf 8192 rm.vram = true → Memory.wf 8192 rm.wram = true → Memory.wf 160 rm.oam = true →
    Memory.wf 127 rm.hram = true → Memory.wf cfg.cartRamSize cfg.cartRamInit = true →
    let s := State.resetWith cfg rr rm env
    FlagNibbleZero s ∧ DmaInRange s ∧ MemoriesCanonical s ∧ PpuInRange s.ppu ∧ NoPendingEnable s ∧ BankInRange s) ∧
  (FlagNibbleZero State.reset ∧ DmaInRange State.reset ∧ MemoriesCanonical State.reset ∧ PpuInRange State.reset.ppu ∧
    NoPendingEnable State.reset ∧ BankInRange State.reset)

/-! ## The step -/

/-- R310: when the bytes at `PC` decode to an instruction, a step is that instruction's effect on the state its fetch
leaves, then `Tick(cost)`, then the dispatch check and the delayed enable; an effect that raised ends the step. R310
is a decision of the spec (D5, D6); the split between effect and time is log 7. -/
def Obligations.StepRunsTheDecodedInstruction : Prop :=
  ∀ (s : State) (i : Instr) (op : Byte) (rest : List Byte),
    Running s → decode (op :: rest) = .ok (i, []) → BytesAt s s.regs.pc (op :: rest) →
    let s' := fetched op (1 + rest.length) s
    ∃ t, exec i s' = .next t ∧
      (t.fault = none → step s = .next (endStep (tickN (cost i s') t))) ∧
      (t.fault ≠ none → step s = .next t)

/-- The same step with every device at rest and no interrupt to take: the effect, the time with one audio tick and one
serial tick for each T-cycle, and the delayed enable. R310 to R312 are decisions of the spec (D3 to D6);
`DevicesQuiet` speaks of the tape of draws of log 4, the record of the calls is log 10. -/
def Obligations.QuietStepIsEffectThenTime : Prop :=
  ∀ (s t : State) (i : Instr) (op : Byte) (rest : List Byte),
    Running s → decode (op :: rest) = .ok (i, []) → BytesAt s s.regs.pc (op :: rest) →
    let s' := fetched op (1 + rest.length) s
    let n := cost i s'
    exec i s' = .next t → t.fault = none → DevicesQuiet n t →
    (t.irq.ime = false ∨ t.irq.ifl &&& t.irq.ie &&& 0x1F#8 = 0x00#8) →
    step s = .next { t with clock := t.clock + n, timer.divider := t.timer.divider + BitVec.ofNat 16 n,
                            env.bits := t.env.bits.drop n, env.count := t.env.count + n,
                            outbox := tickCalls n ++ t.outbox,
                            irq.ime := t.irq.ime || t.irq.imePending, irq.imePending := false }

/-- R310 step 1 and 2, R341: a halted machine with no pending enabled interrupt idles one M-cycle and executes
nothing; with a pending enabled one, whatever `IME` is, the step is that of the machine not halted. Decisions D5 and
D6 of the spec; the tape of draws is log 4, `pc0` of an idle step log 6. -/
def Obligations.HaltedStepIdlesOrResumes : Prop :=
  ∀ s : State, s.fault = none → s.irq.halted = true →
    (s.irq.ifl &&& s.irq.ie = 0x00#8 → step s = .next (endStep (tickN 4 { s with pc0 := s.regs.pc }))) ∧
    (s.irq.ifl &&& s.irq.ie = 0x00#8 → DevicesQuiet 4 s → ∃ t, step s = .next t ∧ t.clock = s.clock + 4 ∧
      t.regs = s.regs ∧ t.irq.halted = true ∧ t.irq.ifl = s.irq.ifl ∧ t.irq.ie = s.irq.ie ∧
        ∀ a, a ≠ 0xFF04#16 → peek a t = peek a s) ∧
    (s.irq.ifl &&& s.irq.ie ≠ 0x00#8 → step s = step { s with irq.halted := false })

/-- R332, R333: with `IME = 1` the lowest pending enabled interrupt is taken: `IME` and its `IF` bit cleared, the
machine no longer halted, `PC` pushed, `PC` at its vector, and 20 T-cycles; with `IME = 0` or none pending nothing
happens. Decisions D10 and D40 of the spec. -/
def Obligations.DispatchTakesTheLowestPendingInterrupt : Prop :=
  ∀ (s : State) (k : Nat), k < 5 →
    (s.irq.ime = true → bitAt (s.irq.ifl &&& s.irq.ie) k = true →
      (∀ j, j < k → bitAt (s.irq.ifl &&& s.irq.ie) j = false) →
      let s' : State := { s with irq := { ime := false, imePending := false, halted := false,
                                          ifl := s.irq.ifl &&& ~~~(1#8 <<< k), ie := s.irq.ie } }
      (Covered (s.regs.sp - 1) → Covered (s.regs.sp - 2) →
        ∃ t, Pushes s.regs.pc s' t ∧
          dispatchCheck s = tickN 20 { t with regs.pc := BitVec.ofNat 16 (0x0040 + 8 * k) }) ∧
      (∀ t, PushFaults s.regs.pc s' t → dispatchCheck s = .raised t)) ∧
    (s.irq.ime = false → dispatchCheck s = .ok () s) ∧
    ((∀ j, j < 5 → bitAt (s.irq.ifl &&& s.irq.ie) j = false) → dispatchCheck s = .ok () s)

/-- R332 by a whole step: a `NOP` with `IME = 1` and a pending enabled interrupt, the stack in RAM, the devices at
rest: the step executes the `NOP` (4 T-cycles), pushes the address after it and goes to the vector (20 T-cycles).
Decisions D6, D10 and D40 of the spec; the tape of draws is log 4. -/
def Obligations.StepDispatchesAfterTheInstruction : Prop :=
  ∀ (s : State) (k : Nat), k < 5 → Running s → BytesAt s s.regs.pc [0x00#8] → s.irq.ime = true →
    s.irq.imePending = false → bitAt (s.irq.ifl &&& s.irq.ie) k = true →
    (∀ j, j < k → bitAt (s.irq.ifl &&& s.irq.ie) j = false) →
    (0xC000 ≤ s.regs.sp.toNat - 2 ∧ s.regs.sp.toNat ≤ 0xE000) → DevicesQuiet 24 s →
    ∃ t, step s = .next t ∧ t.fault = none ∧ t.clock = s.clock + 24 ∧
      t.regs.pc = BitVec.ofNat 16 (0x0040 + 8 * k) ∧ t.regs.sp = s.regs.sp - 2 ∧
      peek (s.regs.sp - 1) t = some (hi8 (s.regs.pc + 1)) ∧ peek (s.regs.sp - 2) t = some (lo8 (s.regs.pc + 1)) ∧
      t.irq = { ime := false, imePending := false, halted := false, ifl := s.irq.ifl &&& ~~~(1#8 <<< k),
                ie := s.irq.ie } ∧
      RegsKept [.sp, .pc] s t ∧
      (∀ a, locate false a ≠ locate false (s.regs.sp - 1) → locate false a ≠ locate false (s.regs.sp - 2) →
        a ≠ 0xFF0F#16 → a ≠ 0xFF04#16 → peek a t = peek a s)

/-- R304, R410: the step of `EI` ends with `IME = 1` but takes no interrupt, pending or not; the instruction after it
runs first. Decision D5 of the spec; the tape of draws is log 4. -/
def Obligations.EiTakesEffectAfterItsOwnCheck : Prop :=
  ∀ s : State, Running s → BytesAt s s.regs.pc [0xFB#8] → s.irq.ime = false → DevicesQuiet 4 s →
    ∃ t, step s = .next t ∧ t.regs = { s.regs with pc := s.regs.pc + 1 } ∧ t.clock = s.clock + 4 ∧
      t.irq = { ime := true, imePending := false, halted := false, ifl := s.irq.ifl, ie := s.irq.ie }

/-- R320: no step of a faulted machine is defined, and the model stops there by name; `rst` alone leaves the faulted
state. Decision D37 of the spec; that the stop has this form is log 5, the model's choice; host moves are log 18. -/
def Obligations.FaultedMachineDoesNotStep : Prop :=
  ∀ (s : State) (r : FaultRecord), s.fault = some r →
    step s = .fault (.stepWhileFaulted r) ∧
    (∀ m : HostMove, (hostMove m s).fault = none ↔ ∃ rr rm, m = .rst rr rm)

/-- R306, R321, R302, R323: an unknown opcode takes the fault `IllegalOpcode`, `STOP` (its second byte fetched and
ignored) `StopUnmodelled`: the record names the opcode and its address, `PC` has moved past the bytes fetched, nothing
else has changed and no `Tick` is made. Decisions D8 and D9 of the spec; the fault as a next state is log 5, the
history entry log 6, the fetch of the second byte log 19. -/
def Obligations.UnknownOpcodesAndStopTakeTheirFault : Prop :=
  (∀ (op : Byte) (i : Instr) (s : State), (op, i) ∈ unknownOpcodes →
      encode i = [op] ∧ decode [op] = .ok (i, []) ∧
      exec i s = .next { s with fault := some { kind := .illegalOpcode op, pc := s.pc0 } } ∧
      (Running s → BytesAt s s.regs.pc [op] →
        step s = .next { s with pc0 := s.regs.pc, regs.pc := s.regs.pc + 1, irq.halted := false,
                                history := ({ pc0 := s.regs.pc, op := op } :: s.history).take s.cfg.historyDepth,
                                fault := some { kind := .illegalOpcode op, pc := s.regs.pc } })) ∧
  (∀ (n : Byte) (s : State),
      encode (.stop n) = [0x10#8, n] ∧
      exec (.stop n) s = .next { s with fault := some { kind := .stopUnmodelled 0x10#8, pc := s.pc0 } } ∧
      (Running s → BytesAt s s.regs.pc [0x10#8, n] →
        step s = .next { s with pc0 := s.regs.pc, regs.pc := s.regs.pc + 2, irq.halted := false,
                                history := ({ pc0 := s.regs.pc, op := 0x10#8 } :: s.history).take s.cfg.historyDepth,
                                fault := some { kind := .stopUnmodelled 0x10#8, pc := s.regs.pc } }))

/-- R83, R320, R322: the uncovered addresses are exactly those listed; a read, a write or a fetch there raises
`BusFault`. An instruction whose access it is ends in the fault with nothing further done: no register written, `HL`
not moved; a first write or the step of `SP` made before the fault is not undone. Decisions D13, D18 and D37 of the
spec; the fault as a next state is log 5 and 6. -/
def Obligations.UncoveredAddressRaisesBusFault : Prop :=
  (∀ (a : Word) (v : Byte) (s : State),
    (¬Covered a ↔ (a.toNat = 0xFF03 ∨ (0xFF08 ≤ a.toNat ∧ a.toNat ≤ 0xFF0E) ∨ (0xFF4C ≤ a.toNat ∧ a.toNat ≤ 0xFF4F) ∨
      (0xFF51 ≤ a.toNat ∧ a.toNat ≤ 0xFF7F))) ∧
    (¬Covered a → busRead a s = .raised { s with fault := some { kind := .busFault a, pc := s.pc0 } } ∧
      busWrite a v s = .raised { s with fault := some { kind := .busFault a, pc := s.pc0 } }) ∧
    (Running s → ¬Covered s.regs.pc →
      step s = .next { s with pc0 := s.regs.pc, irq.halted := false,
                              fault := some { kind := .busFault s.regs.pc, pc := s.regs.pc } })) ∧
  (∀ (r : Reg8) (n : Byte) (up : Bool) (k : AluOp) (sh : ShiftOp) (b : BitNo) (x : AAddr) (i : Instr) (s : State),
    (¬Covered s.hl →
      i ∈ [ldRHl r, ldHlR r, .ld_mhl_n n, ldAMove up, stAMove up, aluInstr k .mem, .inc_mhl, .dec_mhl, shiftHlOf sh,
           bitTestHlOf b, bitResHlOf b, bitSetHlOf b] → exec i s = .next (busFaulted s.hl s)) ∧
    (¬Covered (x.at s) → i ∈ [ldA x, stA x] → exec i s = .next (busFaulted (x.at s) s))) ∧
  (∀ (p : Reg16Stk) (cc : Cond) (b : BitNo) (nn : Word) (s t : State),
    (¬Covered nn → exec (.ld_mnn_sp nn) s = .next (busFaulted nn s)) ∧
    (Covered nn → ¬Covered (nn + 1) → ∃ w, Stores nn (lo8 s.regs.sp) s w ∧
      exec (.ld_mnn_sp nn) s = .next (busFaulted (nn + 1) w)) ∧
    (PushFaults (s.reg16Stk p) s t → exec (pushOf p) s = .next t) ∧
    (PopFaults s t → exec (popOf p) s = .next t) ∧
    (PushFaults s.regs.pc s t → exec (.call_nn nn) s = .next t ∧ exec (rstOf b) s = .next t ∧
      (s.cond cc = true → exec (callIfOf cc nn) s = .next t)) ∧
    (PopFaults s t → exec .ret s = .next t ∧ exec .reti s = .next t ∧
      (s.cond cc = true → exec (retIfOf cc) s = .next t)))

/-! ## Invariants of every step -/

/-- R22: the low nibble of `F` stays zero. -/
def Obligations.FlagNibbleStaysZero : Prop :=
  ∀ s t : State, FlagNibbleZero s → step s = .next t → FlagNibbleZero t

/-- The byte stores stay in canonical form within their sizes, and the DMA offset within its range. The canonical form
is the model's own (log 2). -/
def Obligations.MemoriesStayCanonical : Prop :=
  ∀ s t : State, MemoriesCanonical s → DmaInRange s → step s = .next t → MemoriesCanonical t ∧ DmaInRange t

/-- The PPU's counters and lists stay within the ranges of R39, and a disabled LCD stays in its forced state. R39 and
R371 rest on decisions D25 to D32 of the spec. -/
def Obligations.PpuStaysInRange : Prop :=
  ∀ s t : State, PpuInRange s.ppu → step s = .next t → PpuInRange t.ppu

/-- R29, R35: `ime_pending` is `0` at every step boundary; no step changes the configuration, ROM bytes among it, and
no step brings the boot overlay back. Decisions D5 and D15 of the spec. -/
def Obligations.StepsNeverUndoWhatIsFinal : Prop :=
  (∀ s t : State, step s = .next t → t.fault = none → t.irq.imePending = false) ∧
  (∀ s t : State, step s = .next t → t.cfg = s.cfg ∧ (s.bootEnabled = false → t.bootEnabled = false))

/-- A step that does not fault takes a whole number of M-cycles, between 4 and 44 T-cycles: an instruction of at most
24 and a dispatch of 20. A sum over the cycle table and R332, whose 20 T-cycles are decision C3 and D10 of the spec.
-/
def Obligations.StepTakesWholeMachineCycles : Prop :=
  ∀ s t : State, step s = .next t → t.fault = none →
    ∃ m, 1 ≤ m ∧ m ≤ 11 ∧ t.clock = s.clock + 4 * m

/-- The bank registers of each controller stay within their widths, and the ROM bank register of `MBC1` and `MBC3` is
never 0. This is about the register: where its value is a multiple of the number of banks, R91's reduction still reads
bank 0 in the switchable window. The masks of R94, R100 and R107 are from general knowledge there, R91, R100 and R107
rest on decision D19; the registers' storage width is log 16. -/
def Obligations.BankRegistersStayLegal : Prop :=
  ∀ s t : State, BankInRange s → step s = .next t → BankInRange t

/-! ## Devices -/

/-- R350 to R352: over any number of T-cycles the divider counts each one, and an enabled `TIMA` counts the multiples
of its period that the divider passes; the tick of an increment from `0xFF` reloads `TMA` and sets `IF` bit 2 in the
same tick, and no tick without an overflow sets that bit. A disabled timer counts in the divider alone. Decision D22
of the spec. -/
def Obligations.TimaCountsThePeriodsOfTheDivider : Prop :=
  (∀ (t : Timer) (n : Nat),
    let period := match t.tac.toNat % 4 with
      | 0 => 1024
      | 1 => 16
      | 2 => 64
      | _ => 256
    let passed := (t.divider.toNat + n) / period - t.divider.toNat / period
    let u := (fun x : Timer => x.tick.1)^[n] t
    u.divider = t.divider + BitVec.ofNat 16 n ∧ u.tma = t.tma ∧ u.tac = t.tac ∧
    (t.tac.getLsbD 2 = true → t.tima.toNat + passed ≤ 0xFF → u.tima = t.tima + BitVec.ofNat 8 passed) ∧
    (t.tac.getLsbD 2 = false → u.tima = t.tima)) ∧
  (∀ s : State,
    let period := match s.timer.tac.toNat % 4 with
      | 0 => 1024
      | 1 => 16
      | 2 => 64
      | _ => 256
    let u := timerTick s
    (s.timer.tac.getLsbD 2 = true → (s.timer.divider.toNat + 1) % period = 0 → s.timer.tima = 0xFF#8 →
      u = { s with timer.divider := s.timer.divider + 1, timer.tima := s.timer.tma, irq.ifl := s.irq.ifl ||| 0x04#8 }) ∧
    (s.timer.tac.getLsbD 2 = true → (s.timer.divider.toNat + 1) % period = 0 → s.timer.tima ≠ 0xFF#8 →
      u = { s with timer.divider := s.timer.divider + 1, timer.tima := s.timer.tima + 1 }) ∧
    (s.timer.tac.getLsbD 2 = false ∨ (s.timer.divider.toNat + 1) % period ≠ 0 →
      u = { s with timer.divider := s.timer.divider + 1 }))

/-- R361: one T-cycle of an active transfer copies the byte at `dma_src * 0x100 + dma_offset` to `OAM[dma_offset]`,
and the 160th ends it; the read of an uncovered source raises (R413); an idle unit does nothing. Decision D23 of the
spec. -/
def Obligations.DmaTickCopiesOneByte : Prop :=
  ∀ (s : State),
    let a : Word := (s.dma.src ++ 0x00#8) + s.dma.offset.setWidth 16
    (s.dma.active = false → dmaTick s = .ok () s) ∧
    (∀ v u, s.dma.active = true → Reads a s v u → ∃ t, dmaTick s = .ok () t ∧
      t = { u with oam := t.oam, dma := { active := decide (s.dma.offset.toNat ≠ 159), src := s.dma.src,
                                          offset := s.dma.offset + 1 } } ∧
      Memory.read t.oam s.dma.offset.toNat = v ∧
      ∀ i, i ≠ s.dma.offset.toNat → Memory.read t.oam i = Memory.read s.oam i) ∧
    (s.dma.active = true → ¬Covered a → dmaTick s = .raised (busFaulted a s)) ∧
    (s.dma.active = true → s.dma.src = 0xFF#8 → s.dma.offset = 0x03#8 → ¬Covered a)

/-- R360, R362: from the trigger write, 160 T-cycles, and no fewer, copy 160 bytes of WRAM into OAM and end the
transfer: after `n` of them, `n` below 160, it is active at offset `n`, whatever the timer, the PPU and the serial
port do meanwhile. Decisions D4 and D23 of the spec. -/
def Obligations.DmaTransferFillsOamIn160Cycles : Prop :=
  ∀ (s t : State) (v : Byte), 0xC0 ≤ v.toNat → v.toNat ≤ 0xDF → busWrite 0xFF46#16 v s = .ok () t →
    (∀ n, n < 160 → ∃ w, tickN n t = .ok () w ∧ w.dma.active = true ∧ w.dma.offset.toNat = n) ∧
    ∃ u, tickN 160 t = .ok () u ∧ u.clock = s.clock + 160 ∧ u.dma.active = false ∧ u.wram = s.wram ∧
      ∀ i, i < 160 → Memory.read u.oam i = Memory.read s.wram ((v.toNat - 0xC0) * 0x100 + i)

/-- R371: a write that clears `LCDC[7]` forces HBlank, line 0, dot 0 and empty lists, and raises nothing; one that
sets it restarts the frame and marks it to be skipped; any other only stores the byte. While the LCD is off a tick
does nothing. Decision D25 of the spec. -/
def Obligations.LcdEnableBitStartsAndStopsThePpu : Prop :=
  ∀ (s : State) (v : Byte),
    let p := s.ppu
    (bitAt p.lcdc 7 = true → bitAt v 7 = false →
      let q : Ppu := { p with lcdc := v, mode := .hblank, ly := 0, dot := 0, lx := 0, fifo := [], sprites := [],
                              spActive := false, spBackup := List.replicate 8 none, inWindow := false,
                              winUsed := false, winLine := 0, coincidence := false }
      busWrite 0xFF40#16 v s = .ok () { s with ppu := q }) ∧
    (bitAt p.lcdc 7 = false → bitAt v 7 = true →
      let q : Ppu := { p with lcdc := v, ly := 0, dot := 0, mode := .hblank, winLine := 0, skipFrame := true }
      busWrite 0xFF40#16 v s = .ok () { s with ppu := q }) ∧
    (bitAt p.lcdc 7 = bitAt v 7 → busWrite 0xFF40#16 v s = .ok () { s with ppu := { p with lcdc := v } }) ∧
    (bitAt p.lcdc 7 = false → ppuTick s = s)

/-- R373: with the LCD on, the line and dot counters together count the T-cycles modulo the frame of `154 * 456 =
70224`, whatever memory holds. Decision D25 of the spec. -/
def Obligations.FrameIs70224Dots : Prop :=
  ∀ (vram oam : Memory) (p : Ppu) (n : Nat), p.lcdOn = true → p.dot < 456 → p.ly.toNat < 154 →
    let q := (fun x : Ppu => (x.tick vram oam).ppu)^[n] p
    q.lcdOn = true ∧ q.dot < 456 ∧ q.ly.toNat < 154 ∧
    q.ly.toNat * 456 + q.dot = (p.ly.toNat * 456 + p.dot + n) % 70224

/-- R372, R374, R376, R387, R388: the mode changes at the dot thresholds, with the interrupt bits each change raises,
VBlank's unconditionally; after every dot with the LCD on the coincidence flag says whether `LY = LYC`, and in VBlank
after its first dot, where no other source can raise it, `IF` bit 1 is set exactly by an enabled rising edge.
Decisions D25, D27 and D30 of the spec. -/
def Obligations.PpuModesAndCoincidence : Prop :=
  (∀ (s : State), s.ppu.lcdOn = true →
      let p := s.ppu
      let t := ppuTick s
      (p.ly.toNat ≤ 143 → p.dot = 0 → t.ppu.mode = .oamScan ∧ t.ppu.sprites.length ≤ 1 ∧
        (p.statEn.getLsbD 2 = true → bitAt t.irq.ifl 1 = true)) ∧
      (p.ly.toNat ≤ 143 → 0 < p.dot → p.dot < 80 → p.mode = .oamScan → t.ppu.mode = .oamScan) ∧
      (p.ly.toNat ≤ 143 → p.dot = 80 → t.ppu.mode = .drawing ∧ t.ppu.scxL = p.scx ∧ t.ppu.lx = 0 ∧ t.ppu.spDone = []) ∧
      (p.ly.toNat ≤ 143 → 80 < p.dot → p.mode ≠ .drawing → t.ppu.mode = p.mode) ∧
      (p.ly.toNat = 144 → p.dot = 0 → t.ppu.mode = .vblank ∧ bitAt t.irq.ifl 0 = true ∧
        (p.statEn.getLsbD 1 = true → bitAt t.irq.ifl 1 = true)) ∧
      (144 ≤ p.ly.toNat → ¬(p.ly.toNat = 144 ∧ p.dot = 0) → t.ppu.mode = p.mode) ∧
      (¬(p.ly.toNat = 144 ∧ p.dot = 0) → bitAt t.irq.ifl 0 = bitAt s.irq.ifl 0) ∧
      (∀ i, 2 ≤ i → bitAt t.irq.ifl i = bitAt s.irq.ifl i)) ∧
  (∀ (s : State), s.ppu.lcdOn = true →
      let t := ppuTick s
      (t.ppu.coincidence = decide (t.ppu.ly = t.ppu.lyc)) ∧ t.ppu.lyc = s.ppu.lyc ∧
      (t.ppu.ly = t.ppu.lyc → s.ppu.coincidence = false → s.ppu.statEn.getLsbD 3 = true → bitAt t.irq.ifl 1 = true) ∧
      (144 ≤ s.ppu.ly.toNat → ¬(s.ppu.ly.toNat = 144 ∧ s.ppu.dot = 0) →
        bitAt t.irq.ifl 1 = (bitAt s.irq.ifl 1 ||
          (decide (t.ppu.ly = t.ppu.lyc) && !s.ppu.coincidence && s.ppu.statEn.getLsbD 3))))

/-- R384: the merge step writes pixel `i` of the current sprite (an entry of the list), with its colour index, its
palette and the mark of a sprite, into the FIFO slot of its column exactly when that slot exists, no sprite has
claimed it, the pixel is not transparent, and the sprite's background-priority bit does not hide it under a non-zero
background pixel; every other slot keeps its entry, the FIFO its length, and the step changes nothing else but to end
the fetch. Decision D28 of the spec. -/
def Obligations.SpriteMergeKeepsPriority : Prop :=
  ∀ (vram : Memory) (p : Ppu) (sp : Sprite), p.sprites[p.spCur]? = some sp →
    let q := p.spriteMerge p.curSprite
    let ci := fun i : Nat =>
      let b := if bitAt sp.attr 5 then i else 7 - i
      BitVec.ofBool (bitAt p.spHi b) ++ BitVec.ofBool (bitAt p.spLo b)
    let pal := if bitAt sp.attr 4 then Palette.obj1 else .obj0
    q.fifo.length = p.fifo.length ∧
    (∀ (i : Nat) (e : PixelFifoEntry), i < 8 → p.lx + 8 ≤ sp.x.toNat + i →
      p.fifo[sp.x.toNat + i - 8 - p.lx]? = some e → e.fromSprite = false → ci i ≠ 0#2 →
      ¬(bitAt sp.attr 7 = true ∧ e.ci ≠ 0#2) →
      q.fifo[sp.x.toNat + i - 8 - p.lx]? = some { ci := ci i, pal := pal, fromSprite := true }) ∧
    (∀ (k : Nat) (e : PixelFifoEntry), p.fifo[k]? = some e → ∃ f, q.fifo[k]? = some f ∧
      (e.fromSprite = true → f = e) ∧
      (bitAt sp.attr 7 = true → e.ci ≠ 0#2 → f = e) ∧
      (p.lx + k + 8 < sp.x.toNat ∨ sp.x.toNat ≤ p.lx + k → f = e) ∧
      (sp.x.toNat ≤ p.lx + k + 8 → p.lx + k < sp.x.toNat → ci (p.lx + k + 8 - sp.x.toNat) = 0#2 → f = e) ∧
      (f ≠ e → f.fromSprite = true ∧ f.ci ≠ 0#2 ∧ f.pal = pal)) ∧
    (p.spStep = .merge →
      p.spriteFetchDot vram = { p with fifo := q.fifo, spDone := p.spCur :: p.spDone, spActive := false })

/-- R385, R389, R390: a pixel leaves the FIFO only above the watermark of 8; a discarded one is dropped, any other is
looked up in its palette and emitted once, blank in a skipped frame; the 160th ends the drawing of the line. Decisions
D25, D27, D30 and D32 of the spec. -/
def Obligations.CompositorEmitsThePaletteShade : Prop :=
  ∀ (p : Ppu) (e : PixelFifoEntry) (rest : List PixelFifoEntry),
    let q := PpuOut.compositorDot ⟨p, 0#8, none⟩
    (p.fifo.length ≤ 8 → q.ppu = p ∧ q.pixel = none ∧ q.raise = 0#8) ∧
    (p.fifo = e :: rest → 8 ≤ rest.length → 0 < p.discard →
      q.ppu = { p with fifo := rest, discard := p.discard - 1 } ∧ q.pixel = none ∧ q.raise = 0#8) ∧
    (p.fifo = e :: rest → 8 ≤ rest.length → p.discard = 0 →
      let pal := match e.pal with
        | .bg => p.bgp
        | .obj0 => p.obp0
        | .obj1 => p.obp1
      q.pixel = some (if p.skipFrame then 0#2
        else BitVec.ofBool (bitAt pal (2 * e.ci.toNat + 1)) ++ BitVec.ofBool (bitAt pal (2 * e.ci.toNat))) ∧
      q.ppu.lx = p.lx + 1 ∧ q.ppu.fifo = rest ∧
      (p.lx ≠ 159 → q.ppu.mode = p.mode ∧ q.raise = 0#8) ∧
      (p.lx = 159 → q.ppu.mode = .hblank ∧ q.raise = (if p.statEn.getLsbD 0 then 0x02#8 else 0x00#8) ∧
        q.ppu.winLine = p.winLine + (if p.winUsed then 1 else 0)))

/-! ## The bus -/

/-- R70, R84, R353, R360: what a read and a write of each I/O address does, and that it does nothing else: the owned
registers with no side effect of a read, the ports a draw or a forwarded write, recorded. The write of `LCDC` is in a
statement of its own. The layouts are from general knowledge in the spec, with decisions D11 (`IF`, `IE`), D12, D13
and D38 (R70), D15 (R35), D22 (R353), D23 (R360) and D30 (`STAT`); draws and the record of port calls are log 4 and
10. -/
def Obligations.IoRegistersFollowTheirTable : Prop :=
  (∀ s : State,
      busRead 0xFF04#16 s = .ok (s.timer.divider.extractLsb' 8 8) s ∧
      busRead 0xFF05#16 s = .ok s.timer.tima s ∧
      busRead 0xFF06#16 s = .ok s.timer.tma s ∧
      busRead 0xFF07#16 s = .ok (0xF8#8 ||| s.timer.tac.setWidth 8) s ∧
      busRead 0xFF0F#16 s = .ok s.irq.ifl s ∧
      busRead 0xFF40#16 s = .ok s.ppu.lcdc s ∧
      busRead 0xFF41#16 s = .ok (0x80#8 ||| (s.ppu.statEn.setWidth 8 <<< 3) |||
        ((BitVec.ofBool s.ppu.coincidence).setWidth 8 <<< 2) |||
        (match s.ppu.mode with
          | .hblank => 0x00#8
          | .vblank => 0x01#8
          | .oamScan => 0x02#8
          | .drawing => 0x03#8)) s ∧
      busRead 0xFF42#16 s = .ok s.ppu.scy s ∧
      busRead 0xFF43#16 s = .ok s.ppu.scx s ∧
      busRead 0xFF44#16 s = .ok s.ppu.ly s ∧
      busRead 0xFF45#16 s = .ok s.ppu.lyc s ∧
      busRead 0xFF46#16 s = .ok s.dma.src s ∧
      busRead 0xFF47#16 s = .ok s.ppu.bgp s ∧
      busRead 0xFF48#16 s = .ok s.ppu.obp0 s ∧
      busRead 0xFF49#16 s = .ok s.ppu.obp1 s ∧
      busRead 0xFF4A#16 s = .ok s.ppu.wy s ∧
      busRead 0xFF4B#16 s = .ok s.ppu.wx s ∧
      busRead 0xFF50#16 s = .ok 0xFF#8 s ∧
      busRead 0xFFFF#16 s = .ok s.irq.ie s ∧
      (∀ a : Word, a = 0xFF00#16 ∨ a = 0xFF01#16 ∨ a = 0xFF02#16 ∨ (0xFF10 ≤ a.toNat ∧ a.toNat ≤ 0xFF3F) →
        (∀ v rest, s.env.bytes = v :: rest →
          busRead a s = .ok v { s with env.bytes := rest, env.count := s.env.count + 1,
                                       outbox := .portRead a :: s.outbox }) ∧
        (s.env.bytes = [] →
          busRead a s = .ok (Config.freeByte s.env.count) { s with env.count := s.env.count + 1,
                                                                   outbox := .portRead a :: s.outbox }))) ∧
  (∀ (s : State) (v : Byte),
      busWrite 0xFF04#16 v s = .ok () { s with timer.divider := 0 } ∧
      busWrite 0xFF05#16 v s = .ok () { s with timer.tima := v } ∧
      busWrite 0xFF06#16 v s = .ok () { s with timer.tma := v } ∧
      (∃ t, busWrite 0xFF07#16 v s = .ok () { s with timer.tac := t } ∧ t.setWidth 8 = v &&& 0x07#8) ∧
      busWrite 0xFF0F#16 v s = .ok () { s with irq.ifl := v } ∧
      (∃ e, busWrite 0xFF41#16 v s = .ok () { s with ppu.statEn := e } ∧ e.setWidth 8 <<< 3 = v &&& 0x78#8) ∧
      busWrite 0xFF42#16 v s = .ok () { s with ppu.scy := v } ∧
      busWrite 0xFF43#16 v s = .ok () { s with ppu.scx := v } ∧
      busWrite 0xFF44#16 v s = .ok () s ∧
      busWrite 0xFF45#16 v s = .ok () { s with ppu.lyc := v } ∧
      busWrite 0xFF46#16 v s = .ok () { s with dma := { active := true, src := v, offset := 0 } } ∧
      busWrite 0xFF47#16 v s = .ok () { s with ppu.bgp := v } ∧
      busWrite 0xFF48#16 v s = .ok () { s with ppu.obp0 := v } ∧
      busWrite 0xFF49#16 v s = .ok () { s with ppu.obp1 := v } ∧
      busWrite 0xFF4A#16 v s = .ok () { s with ppu.wy := v } ∧
      busWrite 0xFF4B#16 v s = .ok () { s with ppu.wx := v } ∧
      busWrite 0xFF50#16 v s = .ok () { s with bootEnabled := false } ∧
      busWrite 0xFFFF#16 v s = .ok () { s with irq.ie := v } ∧
      (∀ a : Word, a = 0xFF00#16 ∨ a = 0xFF01#16 ∨ a = 0xFF02#16 ∨ (0xFF10 ≤ a.toNat ∧ a.toNat ≤ 0xFF3F) →
        busWrite a v s = .ok () { s with outbox := .portWrite a v :: s.outbox }))

/-- R63, R65 to R68, R71, R85: a byte written anywhere in VRAM, WRAM, its echo, OAM or HRAM is what the next read
there delivers, with no other address changed but the echo's other name, and no register touched; the echo is the same
storage; the reserved region reads `0xFF` and drops writes. Decisions D12 (the map), D14 (the reserved region) and D31
(access in every PPU mode) of the spec. -/
def Obligations.RamEchoAndReservedRegions : Prop :=
  (∀ (a : Word) (v : Byte) (s : State),
      ((0x8000 ≤ a.toNat ∧ a.toNat < 0xA000) ∨ (0xC000 ≤ a.toNat ∧ a.toNat < 0xFEA0) ∨
        (0xFF80 ≤ a.toNat ∧ a.toNat < 0xFFFF)) →
      ∃ t, busWrite a v s = .ok () t ∧ busRead a t = .ok v t ∧
        t = { s with vram := t.vram, wram := t.wram, oam := t.oam, hram := t.hram } ∧
        (∀ b : Word, b ≠ a → ¬(0xC000 ≤ a.toNat ∧ a.toNat < 0xFE00 ∧ 0xC000 ≤ b.toNat ∧ b.toNat < 0xFE00) →
          peek b t = peek b s) ∧
        (∀ b : Word, 0xC000 ≤ a.toNat → a.toNat < 0xFE00 → 0xC000 ≤ b.toNat → b.toNat < 0xFE00 →
          peek b t = if (b.toNat - a.toNat) % 0x2000 = 0 ∧ (a.toNat - b.toNat) % 0x2000 = 0 then some v else peek b s)) ∧
  (∀ (a : Word) (v : Byte) (s : State),
      (0xE000 ≤ a.toNat → a.toNat < 0xFE00 →
        peek a s = peek (a - 0x2000#16) s ∧ busWrite a v s = busWrite (a - 0x2000#16) v s ∧
        peek a s = some (Memory.read s.wram (a.toNat - 0xE000))) ∧
      (0xFEA0 ≤ a.toNat → a.toNat < 0xFF00 → busRead a s = .ok 0xFF#8 s ∧ busWrite a v s = .ok () s))

/-- R72: while the overlay is on, `0x0000–0x00FF` reads `BootRom` and a write there reaches the cartridge; a write of
`0xFF50` ends it, and the range then reads the cartridge. Decision D15 of the spec. -/
def Obligations.BootOverlayCoversTheFirstPage : Prop :=
  ∀ (a : Word) (v w : Byte) (s : State), a.toNat < 0x100 →
    (s.bootEnabled = true → busRead a s = .ok (Memory.read s.cfg.bootRom a.toNat) s) ∧
    (s.bootEnabled = false → busRead a s = .ok (cartRead a.toNat s) s) ∧
    busWrite a v s = .ok () (cartWrite a.toNat v s) ∧
    (∃ t, busWrite 0xFF50#16 w s = .ok () t ∧ t.bootEnabled = false ∧
      busRead a t = .ok (cartRead a.toNat s) t)

/-- R62, R91, R92: no write below `0x8000` changes a ROM byte or anything but the cartridge, and with no bank
controller it changes nothing; a cartridge is refused at load for an unsupported mapper or a malformed ROM length and
for nothing else. Decision D19 of the spec; what `loadCartridge` leaves unchecked is log 16, and that an unsupported
mapper is reported whatever the length is log 21, the model's choice. -/
def Obligations.RomIsReadOnlyAndWellFormed : Prop :=
  (∀ (a : Word) (v : Byte) (s : State), a.toNat < 0x8000 →
      ∃ t, busWrite a v s = .ok () t ∧ t = { s with cart := t.cart, env := t.env, outbox := t.outbox } ∧
        t.cart.ram = s.cart.ram ∧ (s.cfg.kind = .noMbc → t = s)) ∧
  (∀ (sel : MapperSelector) (len : Nat) (base : Cfg),
      ((∃ n, sel = .other n) → loadCartridge sel len base = .error .unsupportedMapper) ∧
      (∀ k, sel = .kind k → (∃ m, 1 ≤ m ∧ len = 0x4000 * 2 ^ m) →
        loadCartridge sel len base = .ok { base with kind := k, nbanks := len / 0x4000 }) ∧
      (∀ k, sel = .kind k → ¬(∃ m, 1 ≤ m ∧ len = 0x4000 * 2 ^ m) → loadCartridge sel len base = .error .malformedRom))

/-- R94, R95: `MBC1`. Selecting bank 0 selects bank 1; the windows read the banks the registers select, reduced modulo
the number of banks. Decisions D19 and D20 of the spec and values from general knowledge there. -/
def Obligations.Mbc1SelectsBanks : Prop :=
  ∀ (a : Word) (v : Byte) (s : State), s.cfg.kind = .mbc1 →
    (a.toNat < 0x2000 → busWrite a v s = .ok () { s with cart.ramEnable := (v &&& 0x0F#8) == 0x0A#8 }) ∧
    (0x2000 ≤ a.toNat → a.toNat < 0x4000 →
      busWrite a v s = .ok () { s with cart.romBank := if v &&& 0x1F#8 = 0 then 1 else (v &&& 0x1F#8).setWidth 9 }) ∧
    (0x4000 ≤ a.toNat → a.toNat < 0x6000 → busWrite a v s = .ok () { s with cart.ramBank := (v &&& 0x03#8).setWidth 4 }) ∧
    (0x6000 ≤ a.toNat → a.toNat < 0x8000 → busWrite a v s = .ok () { s with cart.bankMode := bitAt v 0 }) ∧
    (a.toNat < 0x4000 → (s.bootEnabled = false ∨ 0x100 ≤ a.toNat) →
      peek a s = some (Memory.read s.cfg.rom
        ((if s.cart.bankMode then s.cart.ramBank.toNat * 32 else 0) % s.cfg.nbanks * 0x4000 + a.toNat))) ∧
    (0x4000 ≤ a.toNat → a.toNat < 0x8000 → BankInRange s →
      peek a s = some (Memory.read s.cfg.rom
        ((s.cart.ramBank.toNat * 32 + s.cart.romBank.toNat) % s.cfg.nbanks * 0x4000 + (a.toNat - 0x4000))))

/-- R100, R101, R106: `MBC3`: its bank registers and windows, the clock registers behind the RAM window, and the
two-step latch: the clock registers take the drawn time exactly on `0x01` written when armed, and any write but `0x00`
disarms. Decisions D19 and D21 of the spec; with `CartRamSize = 0` R93 and R101 disagree on the clock registers, and
R101 is taken: log 20, the model's choice; the draws of the clock are log 4, their order log 17. -/
def Obligations.Mbc3BanksClockAndLatch : Prop :=
  (∀ (a : Word) (v : Byte) (s : State), s.cfg.kind = .mbc3 →
      (a.toNat < 0x2000 → busWrite a v s = .ok () { s with cart.ramEnable := (v &&& 0x0F#8) == 0x0A#8 }) ∧
      (0x2000 ≤ a.toNat → a.toNat < 0x4000 →
        busWrite a v s = .ok () { s with cart.romBank := if v &&& 0x7F#8 = 0 then 1 else (v &&& 0x7F#8).setWidth 9 }) ∧
      (0x4000 ≤ a.toNat → a.toNat < 0x6000 →
        busWrite a v s = .ok () { s with cart.ramBank := (v &&& 0x0F#8).setWidth 4 }) ∧
      (a.toNat < 0x4000 → (s.bootEnabled = false ∨ 0x100 ≤ a.toNat) → peek a s = some (Memory.read s.cfg.rom a.toNat)) ∧
      (0x4000 ≤ a.toNat → a.toNat < 0x8000 →
        peek a s = some (Memory.read s.cfg.rom
          (s.cart.romBank.toNat % s.cfg.nbanks * 0x4000 + (a.toNat - 0x4000)))) ∧
      (0xA000 ≤ a.toNat → a.toNat < 0xC000 → s.cart.ramEnable = true →
        8 ≤ s.cart.ramBank.toNat → s.cart.ramBank.toNat ≤ 0xC →
        let k := s.cart.ramBank.toNat - 8
        (peek a s = some (s.cart.rtc.get k)) ∧
        ∃ t, busWrite a v s = .ok () t ∧ t = { s with cart.rtc := t.cart.rtc, outbox := .rtcWrite k v :: s.outbox } ∧
          t.cart.rtc.get k = v ∧ ∀ j, j < 5 → j ≠ k → t.cart.rtc.get j = s.cart.rtc.get j) ∧
      (0xA000 ≤ a.toNat → a.toNat < 0xC000 →
        s.cart.ramEnable = false ∨ (4 ≤ s.cart.ramBank.toNat ∧ s.cart.ramBank.toNat < 8) ∨ 0xC < s.cart.ramBank.toNat →
        busRead a s = .ok 0xFF#8 s ∧ busWrite a v s = .ok () s)) ∧
  (∀ (a : Word) (v : Byte) (s : State), s.cfg.kind = .mbc3 → 0x6000 ≤ a.toNat → a.toNat < 0x8000 →
      (v = 0x00#8 → busWrite a v s = .ok () { s with cart.latchArmed := true }) ∧
      (v ≠ 0x00#8 → ¬(v = 0x01#8 ∧ s.cart.latchArmed = true) → busWrite a v s = .ok () { s with cart.latchArmed := false }) ∧
      (∀ b0 b1 b2 b3 b4 rest, v = 0x01#8 → s.cart.latchArmed = true →
        s.env.bytes = b0 :: b1 :: b2 :: b3 :: b4 :: rest →
        busWrite a v s = .ok () { s with cart.rtc := ⟨b0, b1, b2, b3, b4⟩, cart.latchArmed := false, env.bytes := rest,
                                         env.count := s.env.count + 5, outbox := .rtcNow :: s.outbox }))

/-- R107, R108: `MBC5`: nine bank bits in two writes, bank 0 selectable. Decisions D19 and D20 of the spec and values
from general knowledge there; the register's width is log 16. -/
def Obligations.Mbc5SelectsBanks : Prop :=
  ∀ (a : Word) (v : Byte) (s : State), s.cfg.kind = .mbc5 →
    (a.toNat < 0x2000 → busWrite a v s = .ok () { s with cart.ramEnable := (v &&& 0x0F#8) == 0x0A#8 }) ∧
    (0x2000 ≤ a.toNat → a.toNat < 0x3000 → ∃ b, busWrite a v s = .ok () { s with cart.romBank := b } ∧
      b.toNat = s.cart.romBank.toNat / 256 * 256 + v.toNat) ∧
    (0x3000 ≤ a.toNat → a.toNat < 0x4000 → ∃ b, busWrite a v s = .ok () { s with cart.romBank := b } ∧
      b.toNat = v.toNat % 2 * 256 + s.cart.romBank.toNat % 256) ∧
    (0x4000 ≤ a.toNat → a.toNat < 0x6000 →
      busWrite a v s = .ok () { s with cart.ramBank := (v &&& 0x0F#8).setWidth 4 }) ∧
    (0x6000 ≤ a.toNat → a.toNat < 0x8000 → busWrite a v s = .ok () s) ∧
    (a.toNat < 0x4000 → (s.bootEnabled = false ∨ 0x100 ≤ a.toNat) → peek a s = some (Memory.read s.cfg.rom a.toNat)) ∧
    (0x4000 ≤ a.toNat → a.toNat < 0x8000 →
      peek a s = some (Memory.read s.cfg.rom
        (s.cart.romBank.toNat % s.cfg.nbanks * 0x4000 + (a.toNat - 0x4000))))

/-- R93, R95, R101, R108, R109, R110: the cartridge RAM window. Closed, it reads `0xFF` and drops writes; open, a byte
written is read back, no other address reads differently, the clock apart, and a `dirty` event is emitted exactly when
the RAM changed. Decisions D19 and D20 of the spec; when `dirty` is emitted is read from the spec by inference: log
13. -/
def Obligations.CartridgeRamIsGated : Prop :=
  ∀ (a : Word) (v : Byte) (s : State), 0xA000 ≤ a.toNat → a.toNat < 0xC000 →
    (s.cfg.kind = .noMbc ∨ s.cart.ramEnable = false ∨ (s.cfg.kind ≠ .mbc3 ∧ s.cfg.cartRamSize = 0) ∨
        (s.cfg.kind = .mbc3 ∧ s.cart.ramBank.toNat ≤ 3 ∧ s.cfg.cartRamSize = 0) →
      busRead a s = .ok 0xFF#8 s ∧ busWrite a v s = .ok () s) ∧
    (s.cfg.kind ≠ .noMbc → s.cart.ramEnable = true → s.cfg.cartRamSize ≠ 0 → s.cfg.cartRamSize % 0x2000 = 0 →
      (s.cfg.kind = .mbc3 → s.cart.ramBank.toNat ≤ 3) →
      let bank := if s.cfg.kind = .mbc1 then (if s.cart.bankMode then s.cart.ramBank.toNat else 0)
                  else s.cart.ramBank.toNat
      let i := (bank * 0x2000 + (a.toNat - 0xA000)) % s.cfg.cartRamSize
      busRead a s = .ok (Memory.read s.cart.ram i) s ∧
      ∃ t, busWrite a v s = .ok () t ∧ peek a t = some v ∧ Memory.read t.cart.ram i = v ∧
        (∀ j, j ≠ i → Memory.read t.cart.ram j = Memory.read s.cart.ram j) ∧
        (∀ b, b ≠ a → peek b t = peek b s) ∧
        t = { s with cart.ram := t.cart.ram,
                     outbox := if Memory.read s.cart.ram i = v then s.outbox else .dirty :: s.outbox })

/-! ## Loads -/

/-- R151, R154, R180, R182, R21: the register and immediate loads; a pair takes its high byte in the first-named register;
`SP` takes `HL`. -/
def Obligations.RegisterAndPairLoads : Prop :=
  (∀ (dst r : Reg8) (n : Byte) (s : State),
      (encode (ldRR dst r) = [0b01#2 ++ dst.code ++ r.code] ∧ cost (ldRR dst r) s = 4 ∧
        ∃ t, exec (ldRR dst r) s = .next t ∧ t.reg8 dst = s.reg8 r ∧ RegsKept [dst.name] s t ∧ OnlyRegsChange s t) ∧
      (encode (ldRImm dst n) = [0b00#2 ++ dst.code ++ 0b110#3, n] ∧ cost (ldRImm dst n) s = 8 ∧
        ∃ t, exec (ldRImm dst n) s = .next t ∧ t.reg8 dst = n ∧ RegsKept [dst.name] s t ∧ OnlyRegsChange s t)) ∧
  (∀ (p : Reg16) (nn : Word) (s : State),
      (encode (ldPair p nn) = [0b00#2 ++ p.code ++ 0b0001#4, lo8 nn, hi8 nn] ∧ cost (ldPair p nn) s = 12 ∧
        ∃ t, exec (ldPair p nn) s = .next t ∧ t.reg16 p = nn ∧ RegsKept p.names s t ∧ OnlyRegsChange s t ∧
          (p = .bc → t.regs.b = hi8 nn ∧ t.regs.c = lo8 nn) ∧ (p = .de → t.regs.d = hi8 nn ∧ t.regs.e = lo8 nn) ∧
          (p = .hl → t.regs.h = hi8 nn ∧ t.regs.l = lo8 nn)) ∧
      (encode .ld_sp_hl = [0xF9#8] ∧ cost .ld_sp_hl s = 8 ∧
        ∃ t, exec .ld_sp_hl s = .next t ∧ t.regs.sp = s.regs.h ++ s.regs.l ∧ RegsKept [.sp] s t ∧ OnlyRegsChange s t))

/-- R152, R156, R157, R160, R162, R164: a load from memory delivers the byte read, a drawn one included. -/
def Obligations.MemoryLoadsDeliverTheByteRead : Prop :=
  ∀ (dst : Reg8) (x : AAddr) (s u : State) (v : Byte),
    (encode (ldRHl dst) = [0b01#2 ++ dst.code ++ 0b110#3] ∧ cost (ldRHl dst) s = 8 ∧
      (Reads s.hl s v u →
        ∃ t, exec (ldRHl dst) s = .next t ∧ t.reg8 dst = v ∧ RegsKept [dst.name] s t ∧ OnlyRegsChange u t)) ∧
    ((match x with
      | .bc => encode (ldA x) = [0x0A#8] ∧ cost (ldA x) s = 8
      | .de => encode (ldA x) = [0x1A#8] ∧ cost (ldA x) s = 8
      | .abs nn => encode (ldA x) = [0xFA#8, lo8 nn, hi8 nn] ∧ cost (ldA x) s = 16
      | .high n => encode (ldA x) = [0xF0#8, n] ∧ cost (ldA x) s = 12
      | .highC => encode (ldA x) = [0xF2#8] ∧ cost (ldA x) s = 8) ∧
      (Reads (x.at s) s v u →
        ∃ t, exec (ldA x) s = .next t ∧ t.regs.a = v ∧ RegsKept [.a] s t ∧ OnlyRegsChange u t))

/-- R153, R155, R158, R159, R161, R163, R165: a store writes its byte at its address and changes nothing else. -/
def Obligations.StoresWriteOneByte : Prop :=
  ∀ (r : Reg8) (n : Byte) (x : AAddr) (s : State),
    (encode (ldHlR r) = [0b01110#5 ++ r.code] ∧ cost (ldHlR r) s = 8 ∧
      (Covered s.hl → ∃ t, exec (ldHlR r) s = .next t ∧ Stores s.hl (s.reg8 r) s t)) ∧
    (encode (.ld_mhl_n n) = [0x36#8, n] ∧ cost (.ld_mhl_n n) s = 12 ∧
      (Covered s.hl → ∃ t, exec (.ld_mhl_n n) s = .next t ∧ Stores s.hl n s t)) ∧
    ((match x with
      | .bc => encode (stA x) = [0x02#8] ∧ cost (stA x) s = 8
      | .de => encode (stA x) = [0x12#8] ∧ cost (stA x) s = 8
      | .abs nn => encode (stA x) = [0xEA#8, lo8 nn, hi8 nn] ∧ cost (stA x) s = 16
      | .high n => encode (stA x) = [0xE0#8, n] ∧ cost (stA x) s = 12
      | .highC => encode (stA x) = [0xE2#8] ∧ cost (stA x) s = 8) ∧
      (Covered (x.at s) → ∃ t, exec (stA x) s = .next t ∧ Stores (x.at s) s.regs.a s t))

/-- R166 to R169: the forms that move `HL` by one after the access, modulo `2^16`. -/
def Obligations.HlMovesAfterTheAccess : Prop :=
  ∀ (up : Bool) (s u : State) (v : Byte),
    let moved : Word := BitVec.ofInt 16 ((s.hl.toNat : Int) + (if up then 1 else -1))
    (encode (ldAMove up) = [if up then 0x2A#8 else 0x3A#8] ∧ cost (ldAMove up) s = 8 ∧
      (Reads s.hl s v u → ∃ t, exec (ldAMove up) s = .next t ∧ t.regs.a = v ∧ t.hl = moved ∧
        RegsKept [.a, .h, .l] s t ∧ OnlyRegsChange u t)) ∧
    (encode (stAMove up) = [if up then 0x22#8 else 0x32#8] ∧ cost (stAMove up) s = 8 ∧
      (Covered s.hl → ∃ w t, exec (stAMove up) s = .next t ∧ Stores s.hl s.regs.a s w ∧ t.hl = moved ∧
        RegsKept [.h, .l] s t ∧ OnlyRegsChange w t))

/-- R181: `LD (nn),SP` stores the low byte at `nn` and the high byte at `nn + 1`. -/
def Obligations.StackPointerIsStoredLittleEndian : Prop :=
  ∀ (nn : Word) (s : State),
    encode (.ld_mnn_sp nn) = [0x08#8, lo8 nn, hi8 nn] ∧ cost (.ld_mnn_sp nn) s = 20 ∧
    (Covered nn → Covered (nn + 1) → ∃ w t, exec (.ld_mnn_sp nn) s = .next t ∧
      Stores nn (s.regs.sp.setWidth 8) s w ∧ Stores (nn + 1) ((s.regs.sp >>> 8).setWidth 8) w t)

/-- R183, R243: `LD HL,SP+e` and `ADD SP,e`: the signed sum, with the carries of the unsigned addition to the low byte. -/
def Obligations.StackPointerPlusSignedByte : Prop :=
  ∀ (e : Byte) (s : State),
    let sum : Word := BitVec.ofInt 16 ((s.regs.sp.toNat : Int) + e.toInt)
    let half := decide (0x0F < s.regs.sp.toNat % 16 + e.toNat % 16)
    let carry := decide (0xFF < s.regs.sp.toNat % 256 + e.toNat)
    (encode (.ld_hl_sp_e e) = [0xF8#8, e] ∧ cost (.ld_hl_sp_e e) s = 12 ∧
      ∃ t, exec (.ld_hl_sp_e e) s = .next t ∧ t.hl = sum ∧ FlagsAre false false half carry t ∧
        RegsKept [.h, .l, .f] s t ∧ OnlyRegsChange s t) ∧
    (encode (.add_sp_e e) = [0xE8#8, e] ∧ cost (.add_sp_e e) s = 16 ∧
      ∃ t, exec (.add_sp_e e) s = .next t ∧ t.regs.sp = sum ∧ FlagsAre false false half carry t ∧
        RegsKept [.sp, .f] s t ∧ OnlyRegsChange s t)

/-- R184: `PUSH`. `PUSH AF` writes `F` with its low nibble zero. -/
def Obligations.PushStoresThePairBelowTheStack : Prop :=
  ∀ (p : Reg16Stk) (s : State),
    let v : Word := match p with
      | .bc => s.regs.b ++ s.regs.c
      | .de => s.regs.d ++ s.regs.e
      | .hl => s.regs.h ++ s.regs.l
      | .af => s.regs.a ++ (s.regs.f &&& 0xF0#8)
    encode (pushOf p) = [0b11#2 ++ p.code ++ 0b0101#4] ∧ cost (pushOf p) s = 16 ∧
    (Covered (s.regs.sp - 1) → Covered (s.regs.sp - 2) →
      ∃ t, exec (pushOf p) s = .next t ∧ Pushes v s t ∧ t.regs.sp = s.regs.sp - 2 ∧ RegsKept [.sp] s t)

/-- R185: `POP`. `POP AF` takes all four flags and discards the low nibble. -/
def Obligations.PopLoadsThePairFromTheStack : Prop :=
  ∀ (p : Reg16Stk) (v : Word) (s u : State),
    encode (popOf p) = [0b11#2 ++ p.code ++ 0b0001#4] ∧ cost (popOf p) s = 12 ∧
    (Pops v s u → ∃ t, exec (popOf p) s = .next t ∧ OnlyRegsChange u t ∧ t.regs.sp = s.regs.sp + 2 ∧
      RegsKept (.sp :: p.names) s t ∧
      (match p with
        | .bc => t.regs.b = hi8 v ∧ t.regs.c = lo8 v
        | .de => t.regs.d = hi8 v ∧ t.regs.e = lo8 v
        | .hl => t.regs.h = hi8 v ∧ t.regs.l = lo8 v
        | .af => t.regs.a = hi8 v ∧ FlagsAre (bitAt (lo8 v) 7) (bitAt (lo8 v) 6) (bitAt (lo8 v) 5) (bitAt (lo8 v) 4) t))

/-- R184: a `PUSH` then a `POP` of any two pairs, the stack in RAM, restores `SP` and reproduces the pushed value, the low
nibble of `F` apart; every other register and every other byte is as before. -/
def Obligations.PushThenPopReproducesTheValue : Prop :=
  ∀ (p q : Reg16Stk) (s : State), Storage (locate false (s.regs.sp - 1)) = true →
    Storage (locate false (s.regs.sp - 2)) = true →
    ∃ t u, exec (pushOf p) s = .next t ∧ exec (popOf q) t = .next u ∧ u.regs.sp = s.regs.sp ∧
      u.reg16Stk q = (if q = .af then s.reg16Stk p &&& 0xFFF0#16 else s.reg16Stk p) ∧ RegsKept q.names s u ∧
      ∀ a, locate false a ≠ locate false (s.regs.sp - 1) → locate false a ≠ locate false (s.regs.sp - 2) →
        peek a u = peek a s

/-! ## Arithmetic and logic -/

/-- R195 to R201: `ADD` and `ADC` with every operand form: the exact sum is the result plus 256 times the carry. -/
def Obligations.AddAndAdcGiveTheExactSum : Prop :=
  ∀ (x : AluSrc) (s u : State) (b : Byte),
    AluForm .add x s ∧ AluForm .adc x s ∧
    (x.Delivers s b u →
      (∃ t, exec (aluInstr .add x) s = .next t ∧
        t.regs.a.toNat + 256 * t.flagC.toNat = s.regs.a.toNat + b.toNat ∧
        FlagsAre (decide (t.regs.a = 0)) false (decide (0x0F < s.regs.a.toNat % 16 + b.toNat % 16))
          (decide (0xFF < s.regs.a.toNat + b.toNat)) t ∧ RegsKept [.a, .f] s t ∧ OnlyRegsChange u t) ∧
      (∃ t, exec (aluInstr .adc x) s = .next t ∧
        t.regs.a.toNat + 256 * t.flagC.toNat = s.regs.a.toNat + b.toNat + s.flagC.toNat ∧
        FlagsAre (decide (t.regs.a = 0)) false
          (decide (0x0F < s.regs.a.toNat % 16 + b.toNat % 16 + s.flagC.toNat))
          (decide (0xFF < s.regs.a.toNat + b.toNat + s.flagC.toNat)) t ∧ RegsKept [.a, .f] s t ∧ OnlyRegsChange u t))

/-- R195, R202 to R207, R217 to R219: `SUB`, `SBC` and `CP` with every operand form: the exact difference is the result
less 256 times the borrow; `CP` leaves `A`. -/
def Obligations.SubSbcAndCpGiveTheExactDifference : Prop :=
  ∀ (x : AluSrc) (s u : State) (b : Byte),
    AluForm .sub x s ∧ AluForm .sbc x s ∧ AluForm .cp x s ∧
    (x.Delivers s b u →
      (∃ t, exec (aluInstr .sub x) s = .next t ∧
        t.regs.a.toNat + b.toNat = s.regs.a.toNat + 256 * t.flagC.toNat ∧
        FlagsAre (decide (t.regs.a = 0)) true (decide (s.regs.a.toNat % 16 < b.toNat % 16))
          (decide (s.regs.a.toNat < b.toNat)) t ∧ RegsKept [.a, .f] s t ∧ OnlyRegsChange u t) ∧
      (∃ t, exec (aluInstr .sbc x) s = .next t ∧
        t.regs.a.toNat + b.toNat + s.flagC.toNat = s.regs.a.toNat + 256 * t.flagC.toNat ∧
        FlagsAre (decide (t.regs.a = 0)) true (decide (s.regs.a.toNat % 16 < b.toNat % 16 + s.flagC.toNat))
          (decide (s.regs.a.toNat < b.toNat + s.flagC.toNat)) t ∧ RegsKept [.a, .f] s t ∧ OnlyRegsChange u t) ∧
      (∃ t, exec (aluInstr .cp x) s = .next t ∧
        FlagsAre (decide (s.regs.a = b)) true (decide (s.regs.a.toNat % 16 < b.toNat % 16))
          (decide (s.regs.a.toNat < b.toNat)) t ∧ RegsKept [.f] s t ∧ OnlyRegsChange u t))

/-- R208 to R216: `AND`, `XOR` and `OR` with every operand form, bit by bit. -/
def Obligations.LogicWorksBitByBit : Prop :=
  ∀ (x : AluSrc) (s u : State) (b : Byte),
    AluForm .and x s ∧ AluForm .xor x s ∧ AluForm .or x s ∧
    (x.Delivers s b u →
      (∃ t, exec (aluInstr .and x) s = .next t ∧
        (∀ i, i < 8 → bitAt t.regs.a i = (bitAt s.regs.a i && bitAt b i)) ∧
        FlagsAre (decide (t.regs.a = 0)) false true false t ∧ RegsKept [.a, .f] s t ∧ OnlyRegsChange u t) ∧
      (∃ t, exec (aluInstr .xor x) s = .next t ∧
        (∀ i, i < 8 → bitAt t.regs.a i = (bitAt s.regs.a i != bitAt b i)) ∧
        FlagsAre (decide (t.regs.a = 0)) false false false t ∧ RegsKept [.a, .f] s t ∧ OnlyRegsChange u t) ∧
      (∃ t, exec (aluInstr .or x) s = .next t ∧
        (∀ i, i < 8 → bitAt t.regs.a i = (bitAt s.regs.a i || bitAt b i)) ∧
        FlagsAre (decide (t.regs.a = 0)) false false false t ∧ RegsKept [.a, .f] s t ∧ OnlyRegsChange u t))

/-- R220 to R223: `INC` and `DEC` of a register, and of `(HL)` by one read and one write of the same address; both leave the
carry. -/
def Obligations.IncAndDecKeepTheCarry : Prop :=
  (∀ (r : Reg8) (s : State),
      (encode (incOf r) = [0b00#2 ++ r.code ++ 0b100#3] ∧ cost (incOf r) s = 4 ∧
        ∃ t, exec (incOf r) s = .next t ∧ (t.reg8 r).toNat = ((s.reg8 r).toNat + 1) % 256 ∧
          FlagsAre (decide (t.reg8 r = 0)) false (decide ((s.reg8 r).toNat % 16 = 15)) s.flagC t ∧
          RegsKept [r.name, .f] s t ∧ OnlyRegsChange s t) ∧
      (encode (decOf r) = [0b00#2 ++ r.code ++ 0b101#3] ∧ cost (decOf r) s = 4 ∧
        ∃ t, exec (decOf r) s = .next t ∧ (t.reg8 r).toNat = ((s.reg8 r).toNat + 255) % 256 ∧
          FlagsAre (decide (t.reg8 r = 0)) true (decide ((s.reg8 r).toNat % 16 = 0)) s.flagC t ∧
          RegsKept [r.name, .f] s t ∧ OnlyRegsChange s t)) ∧
  (∀ (s u : State) (b : Byte),
      (encode .inc_mhl = [0x34#8] ∧ cost .inc_mhl s = 12 ∧
        (Reads s.hl s b u → ∃ w t, exec .inc_mhl s = .next t ∧ Stores s.hl (b + 1) u w ∧
          FlagsAre (decide (b = 0xFF#8)) false (decide (b.toNat % 16 = 15)) s.flagC t ∧ RegsKept [.f] s t ∧
          OnlyRegsChange w t)) ∧
      (encode .dec_mhl = [0x35#8] ∧ cost .dec_mhl s = 12 ∧
        (Reads s.hl s b u → ∃ w t, exec .dec_mhl s = .next t ∧ Stores s.hl (b - 1) u w ∧
          FlagsAre (decide (b = 0x01#8)) true (decide (b.toNat % 16 = 0)) s.flagC t ∧ RegsKept [.f] s t ∧
          OnlyRegsChange w t)))

/-- R224 to R227: `DAA` case by case; `CPL`, `SCF`, `CCF`. -/
def Obligations.DaaCplScfCcfFollowTheirTables : Prop :=
  (∀ s : State,
      encode .daa = [0x27#8] ∧ cost .daa s = 4 ∧
      ∃ t, exec .daa s = .next t ∧ RegsKept [.a, .f] s t ∧ OnlyRegsChange s t ∧
        (s.flagN = false →
          let low := if s.flagH = true ∨ 0x09 < s.regs.a.toNat % 16 then 0x06 else 0
          let high := if s.flagC = true ∨ 0x99 < s.regs.a.toNat then 0x60 else 0
          t.regs.a.toNat = (s.regs.a.toNat + low + high) % 256 ∧
          FlagsAre (decide (t.regs.a = 0)) false false (s.flagC || decide (0x99 < s.regs.a.toNat)) t) ∧
        (s.flagN = true →
          let low := if s.flagH then 0x06 else 0
          let high := if s.flagC then 0x60 else 0
          t.regs.a.toNat = (s.regs.a.toNat + 256 - low - high) % 256 ∧
          FlagsAre (decide (t.regs.a = 0)) true false s.flagC t)) ∧
  (∀ s : State,
      (encode .cpl = [0x2F#8] ∧ cost .cpl s = 4 ∧
        ∃ t, exec .cpl s = .next t ∧ t.regs.a.toNat = 255 - s.regs.a.toNat ∧ FlagsAre s.flagZ true true s.flagC t ∧
          RegsKept [.a, .f] s t ∧ OnlyRegsChange s t) ∧
      (encode .scf = [0x37#8] ∧ cost .scf s = 4 ∧
        ∃ t, exec .scf s = .next t ∧ FlagsAre s.flagZ false false true t ∧ RegsKept [.f] s t ∧ OnlyRegsChange s t) ∧
      (encode .ccf = [0x3F#8] ∧ cost .ccf s = 4 ∧
        ∃ t, exec .ccf s = .next t ∧ FlagsAre s.flagZ false false (!s.flagC) t ∧ RegsKept [.f] s t ∧ OnlyRegsChange s t))

/-- R195, R224 together: adding two packed decimal bytes with `ADC` and adjusting with `DAA` gives the packed decimal sum,
the carry being the hundreds. -/
def Obligations.DaaAfterAdcAddsInDecimal : Prop :=
  ∀ (s t : State) (r : Reg8) (a1 a0 b1 b0 : Nat), a1 < 10 → a0 < 10 → b1 < 10 → b0 < 10 →
    s.regs.a.toNat = 16 * a1 + a0 → (s.reg8 r).toNat = 16 * b1 + b0 → exec (aluInstr .adc (.reg r)) s = .next t →
    ∃ u d1 d0, exec .daa t = .next u ∧ d1 < 10 ∧ d0 < 10 ∧ u.regs.a.toNat = 16 * d1 + d0 ∧
      100 * u.flagC.toNat + 10 * d1 + d0 = (10 * a1 + a0) + (10 * b1 + b0) + s.flagC.toNat

/-- R240 to R242: `ADD HL,rr`, with the carries out of bits 11 and 15 and `Z` kept; `INC rr` and `DEC rr`, which write no
flag. -/
def Obligations.SixteenBitArithmetic : Prop :=
  ∀ (p : Reg16) (s : State),
    (encode (addHlOf p) = [0b00#2 ++ p.code ++ 0b1001#4] ∧ cost (addHlOf p) s = 8 ∧
      ∃ t, exec (addHlOf p) s = .next t ∧ t.hl.toNat = (s.hl.toNat + (s.reg16 p).toNat) % 65536 ∧
        FlagsAre s.flagZ false (decide (0x0FFF < s.hl.toNat % 4096 + (s.reg16 p).toNat % 4096))
          (decide (0xFFFF < s.hl.toNat + (s.reg16 p).toNat)) t ∧
        RegsKept [.h, .l, .f] s t ∧ OnlyRegsChange s t) ∧
    (encode (incPairOf p) = [0b00#2 ++ p.code ++ 0b0011#4] ∧ cost (incPairOf p) s = 8 ∧
      ∃ t, exec (incPairOf p) s = .next t ∧ (t.reg16 p).toNat = ((s.reg16 p).toNat + 1) % 65536 ∧
        RegsKept p.names s t ∧ OnlyRegsChange s t) ∧
    (encode (decPairOf p) = [0b00#2 ++ p.code ++ 0b1011#4] ∧ cost (decPairOf p) s = 8 ∧
      ∃ t, exec (decPairOf p) s = .next t ∧ (t.reg16 p).toNat = ((s.reg16 p).toNat + 65535) % 65536 ∧
        RegsKept p.names s t ∧ OnlyRegsChange s t)

/-! ## Rotates, shifts, bits -/

/-- R250 to R270: the accumulator rotates, which clear `Z` whatever the result, and the CB-page rotates and shifts of a
register and of `(HL)`, bit by bit. -/
def Obligations.RotatesAndShiftsMoveEveryBit : Prop :=
  (∀ (s : State) (k : ShiftOp) (i : Instr) (op : Byte),
      (k, i, op) ∈ [(ShiftOp.rlc, Instr.rlca, 0x07#8), (.rrc, .rrca, 0x0F#8), (.rl, .rla, 0x17#8), (.rr, .rra, 0x1F#8)] →
      encode i = [op] ∧ cost i s = 4 ∧
      ∃ t, exec i s = .next t ∧ (∀ j, j < 8 → bitAt t.regs.a j = k.resultBit s.regs.a s.flagC j) ∧
        FlagsAre false false false (k.bitOut s.regs.a) t ∧ RegsKept [.a, .f] s t ∧ OnlyRegsChange s t) ∧
  (∀ (k : ShiftOp) (r : Reg8) (s u : State) (b : Byte),
      (encode (shiftOf k r) = [0xCB#8, 0b00#2 ++ k.code ++ r.code] ∧ cost (shiftOf k r) s = 8 ∧
        ∃ t, exec (shiftOf k r) s = .next t ∧
          (∀ j, j < 8 → bitAt (t.reg8 r) j = k.resultBit (s.reg8 r) s.flagC j) ∧
          FlagsAre (decide (t.reg8 r = 0)) false false (k.bitOut (s.reg8 r)) t ∧
          RegsKept [r.name, .f] s t ∧ OnlyRegsChange s t) ∧
      (encode (shiftHlOf k) = [0xCB#8, 0b00#2 ++ k.code ++ 0b110#3] ∧ cost (shiftHlOf k) s = 16 ∧
        (Reads s.hl s b u → ∃ v w t, exec (shiftHlOf k) s = .next t ∧
          (∀ j, j < 8 → bitAt v j = k.resultBit b s.flagC j) ∧ Stores s.hl v u w ∧
          FlagsAre (decide (v = 0)) false false (k.bitOut b) t ∧ RegsKept [.f] s t ∧ OnlyRegsChange w t)))

/-- R271 to R276: `BIT` sets `Z` to the complement of the bit and leaves the carry; `RES` and `SET` change exactly the one
bit and no flag. -/
def Obligations.BitResAndSetTouchOneBit : Prop :=
  (∀ (n : BitNo) (r : Reg8) (s u : State) (b : Byte),
      (encode (bitTestOf n r) = [0xCB#8, 0b01#2 ++ n.code ++ r.code] ∧ cost (bitTestOf n r) s = 8 ∧
        ∃ t, exec (bitTestOf n r) s = .next t ∧ FlagsAre (!bitAt (s.reg8 r) n.val) false true s.flagC t ∧
          RegsKept [.f] s t ∧ OnlyRegsChange s t) ∧
      (encode (bitTestHlOf n) = [0xCB#8, 0b01#2 ++ n.code ++ 0b110#3] ∧ cost (bitTestHlOf n) s = 12 ∧
        (Reads s.hl s b u → ∃ t, exec (bitTestHlOf n) s = .next t ∧ FlagsAre (!bitAt b n.val) false true s.flagC t ∧
          RegsKept [.f] s t ∧ OnlyRegsChange u t))) ∧
  (∀ (n : BitNo) (r : Reg8) (s u : State) (b : Byte),
      (encode (bitResOf n r) = [0xCB#8, 0b10#2 ++ n.code ++ r.code] ∧ cost (bitResOf n r) s = 8 ∧
        ∃ t, exec (bitResOf n r) s = .next t ∧
          (∀ j, j < 8 → bitAt (t.reg8 r) j = if j = n.val then false else bitAt (s.reg8 r) j) ∧
          RegsKept [r.name] s t ∧ OnlyRegsChange s t) ∧
      (encode (bitSetOf n r) = [0xCB#8, 0b11#2 ++ n.code ++ r.code] ∧ cost (bitSetOf n r) s = 8 ∧
        ∃ t, exec (bitSetOf n r) s = .next t ∧
          (∀ j, j < 8 → bitAt (t.reg8 r) j = if j = n.val then true else bitAt (s.reg8 r) j) ∧
          RegsKept [r.name] s t ∧ OnlyRegsChange s t) ∧
      (encode (bitResHlOf n) = [0xCB#8, 0b10#2 ++ n.code ++ 0b110#3] ∧ cost (bitResHlOf n) s = 16 ∧
        (Reads s.hl s b u → ∃ v t, exec (bitResHlOf n) s = .next t ∧ Stores s.hl v u t ∧
          ∀ j, j < 8 → bitAt v j = if j = n.val then false else bitAt b j)) ∧
      (encode (bitSetHlOf n) = [0xCB#8, 0b11#2 ++ n.code ++ 0b110#3] ∧ cost (bitSetHlOf n) s = 16 ∧
        (Reads s.hl s b u → ∃ v t, exec (bitSetHlOf n) s = .next t ∧ Stores s.hl v u t ∧
          ∀ j, j < 8 → bitAt v j = if j = n.val then true else bitAt b j)))

/-! ## Control -/

/-- R286 to R290: the jumps. A condition reads the flags as they stand; nothing but `PC` changes. -/
def Obligations.JumpsSetThePc : Prop :=
  ∀ (cc : Cond) (nn : Word) (e : Byte) (s : State),
    let taken := match cc with
      | .nz => !bitAt s.regs.f 7
      | .z => bitAt s.regs.f 7
      | .nc => !bitAt s.regs.f 4
      | .c => bitAt s.regs.f 4
    let rel : Word := BitVec.ofInt 16 ((s.regs.pc.toNat : Int) + e.toInt)
    (encode (.jp_nn nn) = [0xC3#8, lo8 nn, hi8 nn] ∧ cost (.jp_nn nn) s = 16 ∧
      exec (.jp_nn nn) s = .next { s with regs.pc := nn }) ∧
    (encode (jpIfOf cc nn) = [0b110#3 ++ cc.code ++ 0b010#3, lo8 nn, hi8 nn] ∧
      cost (jpIfOf cc nn) s = (if taken then 16 else 12) ∧
      exec (jpIfOf cc nn) s = .next { s with regs.pc := if taken then nn else s.regs.pc }) ∧
    (encode .jp_hl = [0xE9#8] ∧ cost .jp_hl s = 4 ∧
      exec .jp_hl s = .next { s with regs.pc := s.regs.h ++ s.regs.l }) ∧
    (encode (.jr_e e) = [0x18#8, e] ∧ cost (.jr_e e) s = 12 ∧ exec (.jr_e e) s = .next { s with regs.pc := rel }) ∧
    (encode (jrIfOf cc e) = [0b001#3 ++ cc.code ++ 0b000#3, e] ∧ cost (jrIfOf cc e) s = (if taken then 12 else 8) ∧
      exec (jrIfOf cc e) s = .next { s with regs.pc := if taken then rel else s.regs.pc }) ∧
    (∀ v : Word, MemoryKept s { s with regs.pc := v })

/-- R291, R292, R298: `CALL` and `RST` push the address after the instruction and jump; a `CALL` not taken touches
neither `SP` nor memory. -/
def Obligations.CallsPushTheReturnAddress : Prop :=
  ∀ (cc : Cond) (n : BitNo) (nn : Word) (s : State),
    (encode (.call_nn nn) = [0xCD#8, lo8 nn, hi8 nn] ∧ cost (.call_nn nn) s = 24) ∧
    (encode (callIfOf cc nn) = [0b110#3 ++ cc.code ++ 0b100#3, lo8 nn, hi8 nn] ∧
      cost (callIfOf cc nn) s = (if s.cond cc then 24 else 12)) ∧
    (encode (rstOf n) = [0b11#2 ++ n.code ++ 0b111#3] ∧ cost (rstOf n) s = 16) ∧
    (Covered (s.regs.sp - 1) → Covered (s.regs.sp - 2) → ∃ u, Pushes s.regs.pc s u ∧ u.regs.sp = s.regs.sp - 2 ∧
      RegsKept [.sp] s u ∧
      exec (.call_nn nn) s = .next { u with regs.pc := nn } ∧
      (s.cond cc = true → exec (callIfOf cc nn) s = .next { u with regs.pc := nn }) ∧
      exec (rstOf n) s = .next { u with regs.pc := BitVec.ofNat 16 (8 * n.val) }) ∧
    (s.cond cc = false → exec (callIfOf cc nn) s = .next s)

/-- R293, R294, R297: `RET` pops `PC`; `RETI` sets `IME` as well, at once; a `RET cc` not taken changes nothing. The
`RETI` clauses are R297, which rests on decision D41 of the spec. -/
def Obligations.ReturnsPopThePc : Prop :=
  ∀ (cc : Cond) (v : Word) (s u : State),
    (encode .ret = [0xC9#8] ∧ cost .ret s = 16) ∧ (encode .reti = [0xD9#8] ∧ cost .reti s = 16) ∧
    (encode (retIfOf cc) = [0b110#3 ++ cc.code ++ 0b000#3] ∧ cost (retIfOf cc) s = (if s.cond cc then 20 else 8)) ∧
    (Pops v s u → RegsKept [.sp] s u ∧ u.regs.sp = s.regs.sp + 2 ∧
      exec .ret s = .next { u with regs.pc := v } ∧
      exec .reti s = .next { u with regs.pc := v, irq.ime := true } ∧
      (s.cond cc = true → exec (retIfOf cc) s = .next { u with regs.pc := v })) ∧
    (s.cond cc = false → exec (retIfOf cc) s = .next s)

/-! ## System -/

/-- R300, R301, R303, R304: `NOP`, `HALT`, `DI`, `EI`: exactly their own bits. R301 and R304 rest on decisions D5, D6
and D7 of the spec. -/
def Obligations.SystemInstructionsSetTheirBits : Prop :=
  ∀ s : State,
    (encode .nop = [0x00#8] ∧ cost .nop s = 4 ∧ exec .nop s = .next s) ∧
    (encode .halt = [0x76#8] ∧ cost .halt s = 4 ∧ exec .halt s = .next { s with irq.halted := true }) ∧
    (encode .di = [0xF3#8] ∧ cost .di s = 4 ∧
      exec .di s = .next { s with irq.ime := false, irq.imePending := false }) ∧
    (encode .ei = [0xFB#8] ∧ cost .ei s = 4 ∧ exec .ei s = .next { s with irq.imePending := true }) ∧
    (∀ t : State, exec .halt s = .next t ∨ exec .di s = .next t ∨ exec .ei s = .next t → MemoryKept s t)
end

