-- ==== Sys2Proof/Laws/Memory.lean ====
section
/-! SUPPORT. The laws of the byte store: a read after a write, and that a write keeps the canonical form. -/

namespace Sys2Proof

theorem Memory.read_erase (m : Memory) (a b : Nat) :
    Memory.read (Memory.erase m a) b = if b = a then unlistedByte else Memory.read m b := by
  induction m with
  | nil => simp [Memory.erase, Memory.read]
  | cons c m ih =>
    obtain ⟨k, w⟩ := c
    by_cases hk : k = a
    · by_cases hb : b = a
      · simpa [Memory.erase, hk, hb] using ih
      · simp [Memory.erase, Memory.read, hk, ih, hb, Ne.symm hb]
    · by_cases hb : b = a
      · subst hb; simpa [Memory.erase, Memory.read, hk] using ih
      · simp [Memory.erase, Memory.read, hk, ih, hb]

theorem Memory.read_insert (m : Memory) (a b : Nat) (v : Byte) (h : ∀ c ∈ m, c.1 ≠ a) :
    Memory.read (Memory.insert m a v) b = if b = a then v else Memory.read m b := by
  induction m with
  | nil => simp [Memory.insert, Memory.read, eq_comm]
  | cons c m ih =>
    obtain ⟨k, w⟩ := c
    have hk : k ≠ a := h (k, w) (by simp)
    have ih := ih fun c hc => h c (by simp [hc])
    by_cases hak : a < k
    · by_cases hb : b = a
      · simp [Memory.insert, Memory.read, hak, hb]
      · simp [Memory.insert, Memory.read, hak, hb, Ne.symm hb]
    · by_cases hb : b = a
      · subst hb; simpa [Memory.insert, Memory.read, hak, hk] using ih
      · simp [Memory.insert, Memory.read, hak, ih, hb]

theorem Memory.erase_absent (m : Memory) (a : Nat) : ∀ c ∈ Memory.erase m a, c.1 ≠ a := by
  induction m with
  | nil => simp [Memory.erase]
  | cons c m ih =>
    obtain ⟨k, w⟩ := c
    by_cases hk : k = a
    · simpa [Memory.erase, hk] using ih
    · simpa [Memory.erase, hk] using ih

/-- A read after a write: the byte written there, every other byte as before. -/
theorem Memory.read_write (m : Memory) (a b : Nat) (v : Byte) :
    Memory.read (Memory.write m a v) b = if b = a then v else Memory.read m b := by
  unfold Memory.write
  split
  · rename_i h; rw [Memory.read_erase]; simp [h]
  · rw [Memory.read_insert _ _ _ _ (Memory.erase_absent m a), Memory.read_erase]; split <;> rfl

@[simp] theorem Memory.read_write_same (m : Memory) (a : Nat) (v : Byte) :
    Memory.read (Memory.write m a v) a = v := by simp [Memory.read_write]

theorem Memory.read_write_other (m : Memory) {a b : Nat} (v : Byte) (h : b ≠ a) :
    Memory.read (Memory.write m a v) b = Memory.read m b := by simp [Memory.read_write, h]

/-! ## The canonical form -/

theorem Memory.wfFrom_mono {size lo lo' : Nat} (h : lo ≤ lo') {m : Memory} (hm : Memory.wfFrom size lo' m = true) :
    Memory.wfFrom size lo m = true := by
  cases m with
  | nil => rfl
  | cons c m =>
    obtain ⟨k, w⟩ := c
    simp only [Memory.wfFrom, Bool.and_eq_true, decide_eq_true_eq] at hm ⊢
    exact ⟨⟨⟨by omega, hm.1.1.2⟩, hm.1.2⟩, hm.2⟩

theorem Memory.wfFrom_erase {size lo a : Nat} {m : Memory} (hm : Memory.wfFrom size lo m = true) :
    Memory.wfFrom size lo (Memory.erase m a) = true := by
  induction m generalizing lo with
  | nil => rfl
  | cons c m ih =>
    obtain ⟨k, w⟩ := c
    simp only [Memory.wfFrom, Bool.and_eq_true, decide_eq_true_eq] at hm
    by_cases hk : k = a
    · simp only [Memory.erase, hk, ↓reduceIte]; exact Memory.wfFrom_mono (by omega) (ih hm.2)
    · simp only [Memory.erase, hk, ↓reduceIte, Memory.wfFrom, Bool.and_eq_true, decide_eq_true_eq]
      exact ⟨hm.1, ih hm.2⟩

theorem Memory.wfFrom_insert {size lo a : Nat} {v : Byte} {m : Memory} (hlo : lo ≤ a) (ha : a < size)
    (hv : v ≠ unlistedByte) (hm : Memory.wfFrom size lo m = true) (habs : ∀ c ∈ m, c.1 ≠ a) :
    Memory.wfFrom size lo (Memory.insert m a v) = true := by
  induction m generalizing lo with
  | nil => simp [Memory.insert, Memory.wfFrom, hlo, ha, hv]
  | cons c m ih =>
    obtain ⟨k, w⟩ := c
    have hk : k ≠ a := habs (k, w) (by simp)
    simp only [Memory.wfFrom, Bool.and_eq_true, decide_eq_true_eq] at hm
    by_cases hak : a < k
    · simp only [Memory.insert, hak, ↓reduceIte, Memory.wfFrom, Bool.and_eq_true, decide_eq_true_eq]
      exact ⟨⟨⟨hlo, ha⟩, by simpa using hv⟩, ⟨⟨by omega, hm.1.1.2⟩, hm.1.2⟩, hm.2⟩
    · simp only [Memory.insert, hak, ↓reduceIte, Memory.wfFrom, Bool.and_eq_true, decide_eq_true_eq]
      exact ⟨hm.1, ih (by omega) hm.2 fun c hc => habs c (by simp [hc])⟩

/-- A write within the store keeps its canonical form. -/
theorem Memory.wf_write {size a : Nat} {v : Byte} {m : Memory} (ha : a < size) (hm : Memory.wf size m = true) :
    Memory.wf size (Memory.write m a v) = true := by
  unfold Memory.wf at *
  unfold Memory.write
  split
  · exact Memory.wfFrom_erase hm
  · exact Memory.wfFrom_insert (Nat.zero_le a) ha ‹_› (Memory.wfFrom_erase hm) (Memory.erase_absent m a)

/-- Memories in canonical form that read the same are the same list. -/
theorem Memory.ext_of_wfFrom {size : Nat} : ∀ {lo lo' : Nat} {m n : Memory}, Memory.wfFrom size lo m = true →
    Memory.wfFrom size lo' n = true → (∀ a, Memory.read m a = Memory.read n a) → m = n := by
  have low : ∀ {lo : Nat} {m : Memory}, Memory.wfFrom size lo m = true → ∀ a, a < lo → Memory.read m a = unlistedByte := by
    intro lo m
    induction m generalizing lo with
    | nil => intro _ _ _; rfl
    | cons c m ih =>
      obtain ⟨k, w⟩ := c
      intro hm a ha
      simp only [Memory.wfFrom, Bool.and_eq_true, decide_eq_true_eq] at hm
      have : k ≠ a := by omega
      simp only [Memory.read, this, ↓reduceIte]
      exact ih hm.2 a (by omega)
  intro lo lo' m
  induction m generalizing lo lo' with
  | nil =>
    intro n _ hn h
    cases n with
    | nil => rfl
    | cons c n =>
      obtain ⟨k, w⟩ := c
      simp only [Memory.wfFrom, Bool.and_eq_true, decide_eq_true_eq] at hn
      have := h k
      simp [Memory.read] at this
      simp [← this] at hn
  | cons c m ih =>
    obtain ⟨k, w⟩ := c
    intro n hm hn h
    simp only [Memory.wfFrom, Bool.and_eq_true, decide_eq_true_eq] at hm
    cases n with
    | nil =>
      have := h k
      simp [Memory.read] at this
      simp [this] at hm
    | cons c n =>
      obtain ⟨k', w'⟩ := c
      simp only [Memory.wfFrom, Bool.and_eq_true, decide_eq_true_eq] at hn
      have hkk : k = k' := by
        rcases Nat.lt_trichotomy k k' with hlt | heq | hgt
        · have h1 := h k
          have hne : k' ≠ k := by omega
          simp only [Memory.read, ↓reduceIte, hne] at h1
          rw [low hn.2 k (by omega)] at h1
          simp [h1] at hm
        · exact heq
        · have h1 := h k'
          have hne : k ≠ k' := by omega
          simp only [Memory.read, ↓reduceIte, hne] at h1
          rw [low hm.2 k' (by omega)] at h1
          simp [← h1] at hn
      subst hkk
      have hww : w = w' := by simpa [Memory.read] using h k
      subst hww
      have := ih hm.2 hn.2 (fun a => by
        by_cases ha : k = a
        · rw [low hm.2 a (by omega), low hn.2 a (by omega)]
        · simpa [Memory.read, ha] using h a)
      rw [this]

/-- Equal contents are equal data. -/
theorem Memory.ext_of_wf {size : Nat} {m n : Memory} (hm : Memory.wf size m = true) (hn : Memory.wf size n = true)
    (h : ∀ a, Memory.read m a = Memory.read n a) : m = n := Memory.ext_of_wfFrom hm hn h

/-- The byte stores of the reset state are in canonical form. -/
theorem reset_memories_wf :
    Memory.wf 8192 Machine.State.reset.vram = true ∧ Memory.wf 8192 Machine.State.reset.wram = true ∧
    Memory.wf 160 Machine.State.reset.oam = true ∧ Memory.wf 127 Machine.State.reset.hram = true ∧
    Memory.wf Machine.State.reset.cfg.cartRamSize Machine.State.reset.cart.ram = true := ⟨rfl, rfl, rfl, rfl, rfl⟩

end Sys2Proof
end

