-- ==== Sys2Proof/Laws/State.lean ====
section
/-! SUPPORT. One lemma per field per update of the state, each true by unfolding, so that no later proof unfolds a record
update. The names are `<update>_<field>`. -/

namespace Sys2Proof.Machine


/-! `setPc` -/

@[simp] theorem setPc_irq (v : Word) (s : State) : (setPc v s).irq = s.irq := rfl
@[simp] theorem setPc_timer (v : Word) (s : State) : (setPc v s).timer = s.timer := rfl
@[simp] theorem setPc_dma (v : Word) (s : State) : (setPc v s).dma = s.dma := rfl
@[simp] theorem setPc_bootEnabled (v : Word) (s : State) : (setPc v s).bootEnabled = s.bootEnabled := rfl
@[simp] theorem setPc_ppu (v : Word) (s : State) : (setPc v s).ppu = s.ppu := rfl
@[simp] theorem setPc_vram (v : Word) (s : State) : (setPc v s).vram = s.vram := rfl
@[simp] theorem setPc_wram (v : Word) (s : State) : (setPc v s).wram = s.wram := rfl
@[simp] theorem setPc_oam (v : Word) (s : State) : (setPc v s).oam = s.oam := rfl
@[simp] theorem setPc_hram (v : Word) (s : State) : (setPc v s).hram = s.hram := rfl
@[simp] theorem setPc_cart (v : Word) (s : State) : (setPc v s).cart = s.cart := rfl
@[simp] theorem setPc_cfg (v : Word) (s : State) : (setPc v s).cfg = s.cfg := rfl
@[simp] theorem setPc_clock (v : Word) (s : State) : (setPc v s).clock = s.clock := rfl
@[simp] theorem setPc_pc0 (v : Word) (s : State) : (setPc v s).pc0 = s.pc0 := rfl
@[simp] theorem setPc_fault (v : Word) (s : State) : (setPc v s).fault = s.fault := rfl
@[simp] theorem setPc_history (v : Word) (s : State) : (setPc v s).history = s.history := rfl
@[simp] theorem setPc_env (v : Word) (s : State) : (setPc v s).env = s.env := rfl
@[simp] theorem setPc_outbox (v : Word) (s : State) : (setPc v s).outbox = s.outbox := rfl
@[simp] theorem setPc_regs_a (v : Word) (s : State) : (setPc v s).regs.a = s.regs.a := rfl
@[simp] theorem setPc_regs_f (v : Word) (s : State) : (setPc v s).regs.f = s.regs.f := rfl
@[simp] theorem setPc_regs_b (v : Word) (s : State) : (setPc v s).regs.b = s.regs.b := rfl
@[simp] theorem setPc_regs_c (v : Word) (s : State) : (setPc v s).regs.c = s.regs.c := rfl
@[simp] theorem setPc_regs_d (v : Word) (s : State) : (setPc v s).regs.d = s.regs.d := rfl
@[simp] theorem setPc_regs_e (v : Word) (s : State) : (setPc v s).regs.e = s.regs.e := rfl
@[simp] theorem setPc_regs_h (v : Word) (s : State) : (setPc v s).regs.h = s.regs.h := rfl
@[simp] theorem setPc_regs_l (v : Word) (s : State) : (setPc v s).regs.l = s.regs.l := rfl
@[simp] theorem setPc_regs_sp (v : Word) (s : State) : (setPc v s).regs.sp = s.regs.sp := rfl
@[simp] theorem setPc_regs_pc (v : Word) (s : State) : (setPc v s).regs.pc = v := rfl

/-! `setSp` -/

@[simp] theorem setSp_irq (v : Word) (s : State) : (setSp v s).irq = s.irq := rfl
@[simp] theorem setSp_timer (v : Word) (s : State) : (setSp v s).timer = s.timer := rfl
@[simp] theorem setSp_dma (v : Word) (s : State) : (setSp v s).dma = s.dma := rfl
@[simp] theorem setSp_bootEnabled (v : Word) (s : State) : (setSp v s).bootEnabled = s.bootEnabled := rfl
@[simp] theorem setSp_ppu (v : Word) (s : State) : (setSp v s).ppu = s.ppu := rfl
@[simp] theorem setSp_vram (v : Word) (s : State) : (setSp v s).vram = s.vram := rfl
@[simp] theorem setSp_wram (v : Word) (s : State) : (setSp v s).wram = s.wram := rfl
@[simp] theorem setSp_oam (v : Word) (s : State) : (setSp v s).oam = s.oam := rfl
@[simp] theorem setSp_hram (v : Word) (s : State) : (setSp v s).hram = s.hram := rfl
@[simp] theorem setSp_cart (v : Word) (s : State) : (setSp v s).cart = s.cart := rfl
@[simp] theorem setSp_cfg (v : Word) (s : State) : (setSp v s).cfg = s.cfg := rfl
@[simp] theorem setSp_clock (v : Word) (s : State) : (setSp v s).clock = s.clock := rfl
@[simp] theorem setSp_pc0 (v : Word) (s : State) : (setSp v s).pc0 = s.pc0 := rfl
@[simp] theorem setSp_fault (v : Word) (s : State) : (setSp v s).fault = s.fault := rfl
@[simp] theorem setSp_history (v : Word) (s : State) : (setSp v s).history = s.history := rfl
@[simp] theorem setSp_env (v : Word) (s : State) : (setSp v s).env = s.env := rfl
@[simp] theorem setSp_outbox (v : Word) (s : State) : (setSp v s).outbox = s.outbox := rfl
@[simp] theorem setSp_regs_a (v : Word) (s : State) : (setSp v s).regs.a = s.regs.a := rfl
@[simp] theorem setSp_regs_f (v : Word) (s : State) : (setSp v s).regs.f = s.regs.f := rfl
@[simp] theorem setSp_regs_b (v : Word) (s : State) : (setSp v s).regs.b = s.regs.b := rfl
@[simp] theorem setSp_regs_c (v : Word) (s : State) : (setSp v s).regs.c = s.regs.c := rfl
@[simp] theorem setSp_regs_d (v : Word) (s : State) : (setSp v s).regs.d = s.regs.d := rfl
@[simp] theorem setSp_regs_e (v : Word) (s : State) : (setSp v s).regs.e = s.regs.e := rfl
@[simp] theorem setSp_regs_h (v : Word) (s : State) : (setSp v s).regs.h = s.regs.h := rfl
@[simp] theorem setSp_regs_l (v : Word) (s : State) : (setSp v s).regs.l = s.regs.l := rfl
@[simp] theorem setSp_regs_sp (v : Word) (s : State) : (setSp v s).regs.sp = v := rfl
@[simp] theorem setSp_regs_pc (v : Word) (s : State) : (setSp v s).regs.pc = s.regs.pc := rfl

/-! `setHl` -/

@[simp] theorem setHl_irq (v : Word) (s : State) : (setHl v s).irq = s.irq := rfl
@[simp] theorem setHl_timer (v : Word) (s : State) : (setHl v s).timer = s.timer := rfl
@[simp] theorem setHl_dma (v : Word) (s : State) : (setHl v s).dma = s.dma := rfl
@[simp] theorem setHl_bootEnabled (v : Word) (s : State) : (setHl v s).bootEnabled = s.bootEnabled := rfl
@[simp] theorem setHl_ppu (v : Word) (s : State) : (setHl v s).ppu = s.ppu := rfl
@[simp] theorem setHl_vram (v : Word) (s : State) : (setHl v s).vram = s.vram := rfl
@[simp] theorem setHl_wram (v : Word) (s : State) : (setHl v s).wram = s.wram := rfl
@[simp] theorem setHl_oam (v : Word) (s : State) : (setHl v s).oam = s.oam := rfl
@[simp] theorem setHl_hram (v : Word) (s : State) : (setHl v s).hram = s.hram := rfl
@[simp] theorem setHl_cart (v : Word) (s : State) : (setHl v s).cart = s.cart := rfl
@[simp] theorem setHl_cfg (v : Word) (s : State) : (setHl v s).cfg = s.cfg := rfl
@[simp] theorem setHl_clock (v : Word) (s : State) : (setHl v s).clock = s.clock := rfl
@[simp] theorem setHl_pc0 (v : Word) (s : State) : (setHl v s).pc0 = s.pc0 := rfl
@[simp] theorem setHl_fault (v : Word) (s : State) : (setHl v s).fault = s.fault := rfl
@[simp] theorem setHl_history (v : Word) (s : State) : (setHl v s).history = s.history := rfl
@[simp] theorem setHl_env (v : Word) (s : State) : (setHl v s).env = s.env := rfl
@[simp] theorem setHl_outbox (v : Word) (s : State) : (setHl v s).outbox = s.outbox := rfl
@[simp] theorem setHl_regs_a (v : Word) (s : State) : (setHl v s).regs.a = s.regs.a := rfl
@[simp] theorem setHl_regs_f (v : Word) (s : State) : (setHl v s).regs.f = s.regs.f := rfl
@[simp] theorem setHl_regs_b (v : Word) (s : State) : (setHl v s).regs.b = s.regs.b := rfl
@[simp] theorem setHl_regs_c (v : Word) (s : State) : (setHl v s).regs.c = s.regs.c := rfl
@[simp] theorem setHl_regs_d (v : Word) (s : State) : (setHl v s).regs.d = s.regs.d := rfl
@[simp] theorem setHl_regs_e (v : Word) (s : State) : (setHl v s).regs.e = s.regs.e := rfl
@[simp] theorem setHl_regs_h (v : Word) (s : State) : (setHl v s).regs.h = hi8 v := rfl
@[simp] theorem setHl_regs_l (v : Word) (s : State) : (setHl v s).regs.l = lo8 v := rfl
@[simp] theorem setHl_regs_sp (v : Word) (s : State) : (setHl v s).regs.sp = s.regs.sp := rfl
@[simp] theorem setHl_regs_pc (v : Word) (s : State) : (setHl v s).regs.pc = s.regs.pc := rfl

/-! `setFByte` -/

@[simp] theorem setFByte_irq (v : Byte) (s : State) : (setFByte v s).irq = s.irq := rfl
@[simp] theorem setFByte_timer (v : Byte) (s : State) : (setFByte v s).timer = s.timer := rfl
@[simp] theorem setFByte_dma (v : Byte) (s : State) : (setFByte v s).dma = s.dma := rfl
@[simp] theorem setFByte_bootEnabled (v : Byte) (s : State) : (setFByte v s).bootEnabled = s.bootEnabled := rfl
@[simp] theorem setFByte_ppu (v : Byte) (s : State) : (setFByte v s).ppu = s.ppu := rfl
@[simp] theorem setFByte_vram (v : Byte) (s : State) : (setFByte v s).vram = s.vram := rfl
@[simp] theorem setFByte_wram (v : Byte) (s : State) : (setFByte v s).wram = s.wram := rfl
@[simp] theorem setFByte_oam (v : Byte) (s : State) : (setFByte v s).oam = s.oam := rfl
@[simp] theorem setFByte_hram (v : Byte) (s : State) : (setFByte v s).hram = s.hram := rfl
@[simp] theorem setFByte_cart (v : Byte) (s : State) : (setFByte v s).cart = s.cart := rfl
@[simp] theorem setFByte_cfg (v : Byte) (s : State) : (setFByte v s).cfg = s.cfg := rfl
@[simp] theorem setFByte_clock (v : Byte) (s : State) : (setFByte v s).clock = s.clock := rfl
@[simp] theorem setFByte_pc0 (v : Byte) (s : State) : (setFByte v s).pc0 = s.pc0 := rfl
@[simp] theorem setFByte_fault (v : Byte) (s : State) : (setFByte v s).fault = s.fault := rfl
@[simp] theorem setFByte_history (v : Byte) (s : State) : (setFByte v s).history = s.history := rfl
@[simp] theorem setFByte_env (v : Byte) (s : State) : (setFByte v s).env = s.env := rfl
@[simp] theorem setFByte_outbox (v : Byte) (s : State) : (setFByte v s).outbox = s.outbox := rfl
@[simp] theorem setFByte_regs_a (v : Byte) (s : State) : (setFByte v s).regs.a = s.regs.a := rfl
@[simp] theorem setFByte_regs_f (v : Byte) (s : State) : (setFByte v s).regs.f = maskF v := rfl
@[simp] theorem setFByte_regs_b (v : Byte) (s : State) : (setFByte v s).regs.b = s.regs.b := rfl
@[simp] theorem setFByte_regs_c (v : Byte) (s : State) : (setFByte v s).regs.c = s.regs.c := rfl
@[simp] theorem setFByte_regs_d (v : Byte) (s : State) : (setFByte v s).regs.d = s.regs.d := rfl
@[simp] theorem setFByte_regs_e (v : Byte) (s : State) : (setFByte v s).regs.e = s.regs.e := rfl
@[simp] theorem setFByte_regs_h (v : Byte) (s : State) : (setFByte v s).regs.h = s.regs.h := rfl
@[simp] theorem setFByte_regs_l (v : Byte) (s : State) : (setFByte v s).regs.l = s.regs.l := rfl
@[simp] theorem setFByte_regs_sp (v : Byte) (s : State) : (setFByte v s).regs.sp = s.regs.sp := rfl
@[simp] theorem setFByte_regs_pc (v : Byte) (s : State) : (setFByte v s).regs.pc = s.regs.pc := rfl

/-! `setFlags` -/

@[simp] theorem setFlags_irq (z n h c : Bool) (s : State) : (setFlags z n h c s).irq = s.irq := rfl
@[simp] theorem setFlags_timer (z n h c : Bool) (s : State) : (setFlags z n h c s).timer = s.timer := rfl
@[simp] theorem setFlags_dma (z n h c : Bool) (s : State) : (setFlags z n h c s).dma = s.dma := rfl
@[simp] theorem setFlags_bootEnabled (z n h c : Bool) (s : State) : (setFlags z n h c s).bootEnabled = s.bootEnabled := rfl
@[simp] theorem setFlags_ppu (z n h c : Bool) (s : State) : (setFlags z n h c s).ppu = s.ppu := rfl
@[simp] theorem setFlags_vram (z n h c : Bool) (s : State) : (setFlags z n h c s).vram = s.vram := rfl
@[simp] theorem setFlags_wram (z n h c : Bool) (s : State) : (setFlags z n h c s).wram = s.wram := rfl
@[simp] theorem setFlags_oam (z n h c : Bool) (s : State) : (setFlags z n h c s).oam = s.oam := rfl
@[simp] theorem setFlags_hram (z n h c : Bool) (s : State) : (setFlags z n h c s).hram = s.hram := rfl
@[simp] theorem setFlags_cart (z n h c : Bool) (s : State) : (setFlags z n h c s).cart = s.cart := rfl
@[simp] theorem setFlags_cfg (z n h c : Bool) (s : State) : (setFlags z n h c s).cfg = s.cfg := rfl
@[simp] theorem setFlags_clock (z n h c : Bool) (s : State) : (setFlags z n h c s).clock = s.clock := rfl
@[simp] theorem setFlags_pc0 (z n h c : Bool) (s : State) : (setFlags z n h c s).pc0 = s.pc0 := rfl
@[simp] theorem setFlags_fault (z n h c : Bool) (s : State) : (setFlags z n h c s).fault = s.fault := rfl
@[simp] theorem setFlags_history (z n h c : Bool) (s : State) : (setFlags z n h c s).history = s.history := rfl
@[simp] theorem setFlags_env (z n h c : Bool) (s : State) : (setFlags z n h c s).env = s.env := rfl
@[simp] theorem setFlags_outbox (z n h c : Bool) (s : State) : (setFlags z n h c s).outbox = s.outbox := rfl
@[simp] theorem setFlags_regs_a (z n h c : Bool) (s : State) : (setFlags z n h c s).regs.a = s.regs.a := rfl
@[simp] theorem setFlags_regs_f (z n h c : Bool) (s : State) : (setFlags z n h c s).regs.f = packFlags z n h c := rfl
@[simp] theorem setFlags_regs_b (z n h c : Bool) (s : State) : (setFlags z n h c s).regs.b = s.regs.b := rfl
@[simp] theorem setFlags_regs_c (z n h c : Bool) (s : State) : (setFlags z n h c s).regs.c = s.regs.c := rfl
@[simp] theorem setFlags_regs_d (z n h c : Bool) (s : State) : (setFlags z n h c s).regs.d = s.regs.d := rfl
@[simp] theorem setFlags_regs_e (z n h c : Bool) (s : State) : (setFlags z n h c s).regs.e = s.regs.e := rfl
@[simp] theorem setFlags_regs_h (z n h c : Bool) (s : State) : (setFlags z n h c s).regs.h = s.regs.h := rfl
@[simp] theorem setFlags_regs_l (z n h c : Bool) (s : State) : (setFlags z n h c s).regs.l = s.regs.l := rfl
@[simp] theorem setFlags_regs_sp (z n h c : Bool) (s : State) : (setFlags z n h c s).regs.sp = s.regs.sp := rfl
@[simp] theorem setFlags_regs_pc (z n h c : Bool) (s : State) : (setFlags z n h c s).regs.pc = s.regs.pc := rfl

/-! `setReg8` -/

@[simp] theorem setReg8_irq (r : Reg8) (v : Byte) (s : State) : (setReg8 r v s).irq = s.irq := by cases r <;> rfl
@[simp] theorem setReg8_timer (r : Reg8) (v : Byte) (s : State) : (setReg8 r v s).timer = s.timer := by cases r <;> rfl
@[simp] theorem setReg8_dma (r : Reg8) (v : Byte) (s : State) : (setReg8 r v s).dma = s.dma := by cases r <;> rfl
@[simp] theorem setReg8_bootEnabled (r : Reg8) (v : Byte) (s : State) : (setReg8 r v s).bootEnabled = s.bootEnabled := by cases r <;> rfl
@[simp] theorem setReg8_ppu (r : Reg8) (v : Byte) (s : State) : (setReg8 r v s).ppu = s.ppu := by cases r <;> rfl
@[simp] theorem setReg8_vram (r : Reg8) (v : Byte) (s : State) : (setReg8 r v s).vram = s.vram := by cases r <;> rfl
@[simp] theorem setReg8_wram (r : Reg8) (v : Byte) (s : State) : (setReg8 r v s).wram = s.wram := by cases r <;> rfl
@[simp] theorem setReg8_oam (r : Reg8) (v : Byte) (s : State) : (setReg8 r v s).oam = s.oam := by cases r <;> rfl
@[simp] theorem setReg8_hram (r : Reg8) (v : Byte) (s : State) : (setReg8 r v s).hram = s.hram := by cases r <;> rfl
@[simp] theorem setReg8_cart (r : Reg8) (v : Byte) (s : State) : (setReg8 r v s).cart = s.cart := by cases r <;> rfl
@[simp] theorem setReg8_cfg (r : Reg8) (v : Byte) (s : State) : (setReg8 r v s).cfg = s.cfg := by cases r <;> rfl
@[simp] theorem setReg8_clock (r : Reg8) (v : Byte) (s : State) : (setReg8 r v s).clock = s.clock := by cases r <;> rfl
@[simp] theorem setReg8_pc0 (r : Reg8) (v : Byte) (s : State) : (setReg8 r v s).pc0 = s.pc0 := by cases r <;> rfl
@[simp] theorem setReg8_fault (r : Reg8) (v : Byte) (s : State) : (setReg8 r v s).fault = s.fault := by cases r <;> rfl
@[simp] theorem setReg8_history (r : Reg8) (v : Byte) (s : State) : (setReg8 r v s).history = s.history := by cases r <;> rfl
@[simp] theorem setReg8_env (r : Reg8) (v : Byte) (s : State) : (setReg8 r v s).env = s.env := by cases r <;> rfl
@[simp] theorem setReg8_outbox (r : Reg8) (v : Byte) (s : State) : (setReg8 r v s).outbox = s.outbox := by cases r <;> rfl
@[simp] theorem setReg8_regs_pc (r : Reg8) (v : Byte) (s : State) : (setReg8 r v s).regs.pc = s.regs.pc := by cases r <;> rfl

/-! `setReg16` -/

@[simp] theorem setReg16_irq (p : Reg16) (v : Word) (s : State) : (setReg16 p v s).irq = s.irq := by cases p <;> rfl
@[simp] theorem setReg16_timer (p : Reg16) (v : Word) (s : State) : (setReg16 p v s).timer = s.timer := by cases p <;> rfl
@[simp] theorem setReg16_dma (p : Reg16) (v : Word) (s : State) : (setReg16 p v s).dma = s.dma := by cases p <;> rfl
@[simp] theorem setReg16_bootEnabled (p : Reg16) (v : Word) (s : State) : (setReg16 p v s).bootEnabled = s.bootEnabled := by cases p <;> rfl
@[simp] theorem setReg16_ppu (p : Reg16) (v : Word) (s : State) : (setReg16 p v s).ppu = s.ppu := by cases p <;> rfl
@[simp] theorem setReg16_vram (p : Reg16) (v : Word) (s : State) : (setReg16 p v s).vram = s.vram := by cases p <;> rfl
@[simp] theorem setReg16_wram (p : Reg16) (v : Word) (s : State) : (setReg16 p v s).wram = s.wram := by cases p <;> rfl
@[simp] theorem setReg16_oam (p : Reg16) (v : Word) (s : State) : (setReg16 p v s).oam = s.oam := by cases p <;> rfl
@[simp] theorem setReg16_hram (p : Reg16) (v : Word) (s : State) : (setReg16 p v s).hram = s.hram := by cases p <;> rfl
@[simp] theorem setReg16_cart (p : Reg16) (v : Word) (s : State) : (setReg16 p v s).cart = s.cart := by cases p <;> rfl
@[simp] theorem setReg16_cfg (p : Reg16) (v : Word) (s : State) : (setReg16 p v s).cfg = s.cfg := by cases p <;> rfl
@[simp] theorem setReg16_clock (p : Reg16) (v : Word) (s : State) : (setReg16 p v s).clock = s.clock := by cases p <;> rfl
@[simp] theorem setReg16_pc0 (p : Reg16) (v : Word) (s : State) : (setReg16 p v s).pc0 = s.pc0 := by cases p <;> rfl
@[simp] theorem setReg16_fault (p : Reg16) (v : Word) (s : State) : (setReg16 p v s).fault = s.fault := by cases p <;> rfl
@[simp] theorem setReg16_history (p : Reg16) (v : Word) (s : State) : (setReg16 p v s).history = s.history := by cases p <;> rfl
@[simp] theorem setReg16_env (p : Reg16) (v : Word) (s : State) : (setReg16 p v s).env = s.env := by cases p <;> rfl
@[simp] theorem setReg16_outbox (p : Reg16) (v : Word) (s : State) : (setReg16 p v s).outbox = s.outbox := by cases p <;> rfl
@[simp] theorem setReg16_regs_pc (p : Reg16) (v : Word) (s : State) : (setReg16 p v s).regs.pc = s.regs.pc := by cases p <;> rfl

/-! `setReg16Stk` -/

@[simp] theorem setReg16Stk_irq (p : Reg16Stk) (v : Word) (s : State) : (setReg16Stk p v s).irq = s.irq := by cases p <;> rfl
@[simp] theorem setReg16Stk_timer (p : Reg16Stk) (v : Word) (s : State) : (setReg16Stk p v s).timer = s.timer := by cases p <;> rfl
@[simp] theorem setReg16Stk_dma (p : Reg16Stk) (v : Word) (s : State) : (setReg16Stk p v s).dma = s.dma := by cases p <;> rfl
@[simp] theorem setReg16Stk_bootEnabled (p : Reg16Stk) (v : Word) (s : State) : (setReg16Stk p v s).bootEnabled = s.bootEnabled := by cases p <;> rfl
@[simp] theorem setReg16Stk_ppu (p : Reg16Stk) (v : Word) (s : State) : (setReg16Stk p v s).ppu = s.ppu := by cases p <;> rfl
@[simp] theorem setReg16Stk_vram (p : Reg16Stk) (v : Word) (s : State) : (setReg16Stk p v s).vram = s.vram := by cases p <;> rfl
@[simp] theorem setReg16Stk_wram (p : Reg16Stk) (v : Word) (s : State) : (setReg16Stk p v s).wram = s.wram := by cases p <;> rfl
@[simp] theorem setReg16Stk_oam (p : Reg16Stk) (v : Word) (s : State) : (setReg16Stk p v s).oam = s.oam := by cases p <;> rfl
@[simp] theorem setReg16Stk_hram (p : Reg16Stk) (v : Word) (s : State) : (setReg16Stk p v s).hram = s.hram := by cases p <;> rfl
@[simp] theorem setReg16Stk_cart (p : Reg16Stk) (v : Word) (s : State) : (setReg16Stk p v s).cart = s.cart := by cases p <;> rfl
@[simp] theorem setReg16Stk_cfg (p : Reg16Stk) (v : Word) (s : State) : (setReg16Stk p v s).cfg = s.cfg := by cases p <;> rfl
@[simp] theorem setReg16Stk_clock (p : Reg16Stk) (v : Word) (s : State) : (setReg16Stk p v s).clock = s.clock := by cases p <;> rfl
@[simp] theorem setReg16Stk_pc0 (p : Reg16Stk) (v : Word) (s : State) : (setReg16Stk p v s).pc0 = s.pc0 := by cases p <;> rfl
@[simp] theorem setReg16Stk_fault (p : Reg16Stk) (v : Word) (s : State) : (setReg16Stk p v s).fault = s.fault := by cases p <;> rfl
@[simp] theorem setReg16Stk_history (p : Reg16Stk) (v : Word) (s : State) : (setReg16Stk p v s).history = s.history := by cases p <;> rfl
@[simp] theorem setReg16Stk_env (p : Reg16Stk) (v : Word) (s : State) : (setReg16Stk p v s).env = s.env := by cases p <;> rfl
@[simp] theorem setReg16Stk_outbox (p : Reg16Stk) (v : Word) (s : State) : (setReg16Stk p v s).outbox = s.outbox := by cases p <;> rfl
@[simp] theorem setReg16Stk_regs_pc (p : Reg16Stk) (v : Word) (s : State) : (setReg16Stk p v s).regs.pc = s.regs.pc := by cases p <;> rfl

/-! `logEvent` -/

@[simp] theorem logEvent_regs (e : PortEvent) (s : State) : (logEvent e s).regs = s.regs := rfl
@[simp] theorem logEvent_irq (e : PortEvent) (s : State) : (logEvent e s).irq = s.irq := rfl
@[simp] theorem logEvent_timer (e : PortEvent) (s : State) : (logEvent e s).timer = s.timer := rfl
@[simp] theorem logEvent_dma (e : PortEvent) (s : State) : (logEvent e s).dma = s.dma := rfl
@[simp] theorem logEvent_bootEnabled (e : PortEvent) (s : State) : (logEvent e s).bootEnabled = s.bootEnabled := rfl
@[simp] theorem logEvent_ppu (e : PortEvent) (s : State) : (logEvent e s).ppu = s.ppu := rfl
@[simp] theorem logEvent_vram (e : PortEvent) (s : State) : (logEvent e s).vram = s.vram := rfl
@[simp] theorem logEvent_wram (e : PortEvent) (s : State) : (logEvent e s).wram = s.wram := rfl
@[simp] theorem logEvent_oam (e : PortEvent) (s : State) : (logEvent e s).oam = s.oam := rfl
@[simp] theorem logEvent_hram (e : PortEvent) (s : State) : (logEvent e s).hram = s.hram := rfl
@[simp] theorem logEvent_cart (e : PortEvent) (s : State) : (logEvent e s).cart = s.cart := rfl
@[simp] theorem logEvent_cfg (e : PortEvent) (s : State) : (logEvent e s).cfg = s.cfg := rfl
@[simp] theorem logEvent_clock (e : PortEvent) (s : State) : (logEvent e s).clock = s.clock := rfl
@[simp] theorem logEvent_pc0 (e : PortEvent) (s : State) : (logEvent e s).pc0 = s.pc0 := rfl
@[simp] theorem logEvent_fault (e : PortEvent) (s : State) : (logEvent e s).fault = s.fault := rfl
@[simp] theorem logEvent_history (e : PortEvent) (s : State) : (logEvent e s).history = s.history := rfl
@[simp] theorem logEvent_env (e : PortEvent) (s : State) : (logEvent e s).env = s.env := rfl
@[simp] theorem logEvent_outbox (e : PortEvent) (s : State) : (logEvent e s).outbox = e :: s.outbox := rfl

/-! `requestInt` -/

@[simp] theorem requestInt_regs (m : Byte) (s : State) : (requestInt m s).regs = s.regs := rfl
@[simp] theorem requestInt_timer (m : Byte) (s : State) : (requestInt m s).timer = s.timer := rfl
@[simp] theorem requestInt_dma (m : Byte) (s : State) : (requestInt m s).dma = s.dma := rfl
@[simp] theorem requestInt_bootEnabled (m : Byte) (s : State) : (requestInt m s).bootEnabled = s.bootEnabled := rfl
@[simp] theorem requestInt_ppu (m : Byte) (s : State) : (requestInt m s).ppu = s.ppu := rfl
@[simp] theorem requestInt_vram (m : Byte) (s : State) : (requestInt m s).vram = s.vram := rfl
@[simp] theorem requestInt_wram (m : Byte) (s : State) : (requestInt m s).wram = s.wram := rfl
@[simp] theorem requestInt_oam (m : Byte) (s : State) : (requestInt m s).oam = s.oam := rfl
@[simp] theorem requestInt_hram (m : Byte) (s : State) : (requestInt m s).hram = s.hram := rfl
@[simp] theorem requestInt_cart (m : Byte) (s : State) : (requestInt m s).cart = s.cart := rfl
@[simp] theorem requestInt_cfg (m : Byte) (s : State) : (requestInt m s).cfg = s.cfg := rfl
@[simp] theorem requestInt_clock (m : Byte) (s : State) : (requestInt m s).clock = s.clock := rfl
@[simp] theorem requestInt_pc0 (m : Byte) (s : State) : (requestInt m s).pc0 = s.pc0 := rfl
@[simp] theorem requestInt_fault (m : Byte) (s : State) : (requestInt m s).fault = s.fault := rfl
@[simp] theorem requestInt_history (m : Byte) (s : State) : (requestInt m s).history = s.history := rfl
@[simp] theorem requestInt_env (m : Byte) (s : State) : (requestInt m s).env = s.env := rfl
@[simp] theorem requestInt_outbox (m : Byte) (s : State) : (requestInt m s).outbox = s.outbox := rfl
@[simp] theorem requestInt_irq_ime (m : Byte) (s : State) : (requestInt m s).irq.ime = s.irq.ime := rfl
@[simp] theorem requestInt_irq_imePending (m : Byte) (s : State) : (requestInt m s).irq.imePending = s.irq.imePending := rfl
@[simp] theorem requestInt_irq_halted (m : Byte) (s : State) : (requestInt m s).irq.halted = s.irq.halted := rfl
@[simp] theorem requestInt_irq_ifl (m : Byte) (s : State) : (requestInt m s).irq.ifl = s.irq.ifl ||| m := rfl
@[simp] theorem requestInt_irq_ie (m : Byte) (s : State) : (requestInt m s).irq.ie = s.irq.ie := rfl

/-! `raiseFault` -/

@[simp] theorem raiseFault_regs (k : FaultKind) (s : State) : (raiseFault k s).regs = s.regs := rfl
@[simp] theorem raiseFault_irq (k : FaultKind) (s : State) : (raiseFault k s).irq = s.irq := rfl
@[simp] theorem raiseFault_timer (k : FaultKind) (s : State) : (raiseFault k s).timer = s.timer := rfl
@[simp] theorem raiseFault_dma (k : FaultKind) (s : State) : (raiseFault k s).dma = s.dma := rfl
@[simp] theorem raiseFault_bootEnabled (k : FaultKind) (s : State) : (raiseFault k s).bootEnabled = s.bootEnabled := rfl
@[simp] theorem raiseFault_ppu (k : FaultKind) (s : State) : (raiseFault k s).ppu = s.ppu := rfl
@[simp] theorem raiseFault_vram (k : FaultKind) (s : State) : (raiseFault k s).vram = s.vram := rfl
@[simp] theorem raiseFault_wram (k : FaultKind) (s : State) : (raiseFault k s).wram = s.wram := rfl
@[simp] theorem raiseFault_oam (k : FaultKind) (s : State) : (raiseFault k s).oam = s.oam := rfl
@[simp] theorem raiseFault_hram (k : FaultKind) (s : State) : (raiseFault k s).hram = s.hram := rfl
@[simp] theorem raiseFault_cart (k : FaultKind) (s : State) : (raiseFault k s).cart = s.cart := rfl
@[simp] theorem raiseFault_cfg (k : FaultKind) (s : State) : (raiseFault k s).cfg = s.cfg := rfl
@[simp] theorem raiseFault_clock (k : FaultKind) (s : State) : (raiseFault k s).clock = s.clock := rfl
@[simp] theorem raiseFault_pc0 (k : FaultKind) (s : State) : (raiseFault k s).pc0 = s.pc0 := rfl
@[simp] theorem raiseFault_fault (k : FaultKind) (s : State) : (raiseFault k s).fault = some { kind := k, pc := s.pc0 } := rfl
@[simp] theorem raiseFault_history (k : FaultKind) (s : State) : (raiseFault k s).history = s.history := rfl
@[simp] theorem raiseFault_env (k : FaultKind) (s : State) : (raiseFault k s).env = s.env := rfl
@[simp] theorem raiseFault_outbox (k : FaultKind) (s : State) : (raiseFault k s).outbox = s.outbox := rfl

/-! `recordHistory` -/

@[simp] theorem recordHistory_regs (op : Byte) (s : State) : (recordHistory op s).regs = s.regs := rfl
@[simp] theorem recordHistory_irq (op : Byte) (s : State) : (recordHistory op s).irq = s.irq := rfl
@[simp] theorem recordHistory_timer (op : Byte) (s : State) : (recordHistory op s).timer = s.timer := rfl
@[simp] theorem recordHistory_dma (op : Byte) (s : State) : (recordHistory op s).dma = s.dma := rfl
@[simp] theorem recordHistory_bootEnabled (op : Byte) (s : State) : (recordHistory op s).bootEnabled = s.bootEnabled := rfl
@[simp] theorem recordHistory_ppu (op : Byte) (s : State) : (recordHistory op s).ppu = s.ppu := rfl
@[simp] theorem recordHistory_vram (op : Byte) (s : State) : (recordHistory op s).vram = s.vram := rfl
@[simp] theorem recordHistory_wram (op : Byte) (s : State) : (recordHistory op s).wram = s.wram := rfl
@[simp] theorem recordHistory_oam (op : Byte) (s : State) : (recordHistory op s).oam = s.oam := rfl
@[simp] theorem recordHistory_hram (op : Byte) (s : State) : (recordHistory op s).hram = s.hram := rfl
@[simp] theorem recordHistory_cart (op : Byte) (s : State) : (recordHistory op s).cart = s.cart := rfl
@[simp] theorem recordHistory_cfg (op : Byte) (s : State) : (recordHistory op s).cfg = s.cfg := rfl
@[simp] theorem recordHistory_clock (op : Byte) (s : State) : (recordHistory op s).clock = s.clock := rfl
@[simp] theorem recordHistory_pc0 (op : Byte) (s : State) : (recordHistory op s).pc0 = s.pc0 := rfl
@[simp] theorem recordHistory_fault (op : Byte) (s : State) : (recordHistory op s).fault = s.fault := rfl
@[simp] theorem recordHistory_history (op : Byte) (s : State) : (recordHistory op s).history = ({ pc0 := s.pc0, op := op } :: s.history).take s.cfg.historyDepth := rfl
@[simp] theorem recordHistory_env (op : Byte) (s : State) : (recordHistory op s).env = s.env := rfl
@[simp] theorem recordHistory_outbox (op : Byte) (s : State) : (recordHistory op s).outbox = s.outbox := rfl

/-! `beginStep` -/

@[simp] theorem beginStep_regs (s : State) : (beginStep s).regs = s.regs := rfl
@[simp] theorem beginStep_timer (s : State) : (beginStep s).timer = s.timer := rfl
@[simp] theorem beginStep_dma (s : State) : (beginStep s).dma = s.dma := rfl
@[simp] theorem beginStep_bootEnabled (s : State) : (beginStep s).bootEnabled = s.bootEnabled := rfl
@[simp] theorem beginStep_ppu (s : State) : (beginStep s).ppu = s.ppu := rfl
@[simp] theorem beginStep_vram (s : State) : (beginStep s).vram = s.vram := rfl
@[simp] theorem beginStep_wram (s : State) : (beginStep s).wram = s.wram := rfl
@[simp] theorem beginStep_oam (s : State) : (beginStep s).oam = s.oam := rfl
@[simp] theorem beginStep_hram (s : State) : (beginStep s).hram = s.hram := rfl
@[simp] theorem beginStep_cart (s : State) : (beginStep s).cart = s.cart := rfl
@[simp] theorem beginStep_cfg (s : State) : (beginStep s).cfg = s.cfg := rfl
@[simp] theorem beginStep_clock (s : State) : (beginStep s).clock = s.clock := rfl
@[simp] theorem beginStep_pc0 (s : State) : (beginStep s).pc0 = s.regs.pc := rfl
@[simp] theorem beginStep_fault (s : State) : (beginStep s).fault = s.fault := rfl
@[simp] theorem beginStep_history (s : State) : (beginStep s).history = s.history := rfl
@[simp] theorem beginStep_env (s : State) : (beginStep s).env = s.env := rfl
@[simp] theorem beginStep_outbox (s : State) : (beginStep s).outbox = s.outbox := rfl

end Sys2Proof.Machine
end

