-- ==== Sys2Proof/Laws/Bus.lean ====
section
/-! SUPPORT. What one bus access can do, said once: `busRead` in terms of `Reads`, `busWrite` in terms of `Stores`, and each
raise in terms of `busFaulted`. -/

namespace Sys2Proof.Machine

@[simp] theorem Res.bind_ok {α β : Type} (a : α) (s : State) (k : α → State → Res β) :
    (Res.ok a s).bind k = k a s := rfl
@[simp] theorem Res.bind_raised {α β : Type} (s : State) (k : α → State → Res β) :
    (Res.raised s : Res α).bind k = .raised s := rfl
@[simp] theorem Res.done_ok (a : Unit) (s : State) : (Res.ok a s).done = .next s := rfl
@[simp] theorem Res.done_raised (s : State) : (Res.raised s : Res Unit).done = .next s := rfl
@[simp] theorem Res.state_ok {α : Type} (a : α) (s : State) : (Res.ok a s).state = s := rfl
@[simp] theorem Res.state_raised {α : Type} (s : State) : (Res.raised s : Res α).state = s := rfl

/-! ## The map -/

/-- The overlay changes the map only in the first page, from the cartridge to the boot program. -/
theorem locate_overlay (o : Bool) (a : Word) :
    locate o a = locate false a ∨ (locate o a = .boot a.toNat ∧ locate false a = .cart a.toNat) := by
  cases o
  · exact .inl rfl
  · by_cases h : a.toNat < 0x100
    · refine .inr ⟨?_, ?_⟩
      · simp [locate, h, show a.toNat < 0x8000 by omega]
      · simp [locate, show a.toNat < 0x8000 by omega]
    · left; simp [locate, h]

/-- The address of an owned I/O register. -/
def IoReg.address : IoReg → Word
  | .div => 0xFF04#16
  | .tima => 0xFF05#16
  | .tma => 0xFF06#16
  | .tac => 0xFF07#16
  | .ifl => 0xFF0F#16
  | .lcdc => 0xFF40#16
  | .stat => 0xFF41#16
  | .scy => 0xFF42#16
  | .scx => 0xFF43#16
  | .ly => 0xFF44#16
  | .lyc => 0xFF45#16
  | .dma => 0xFF46#16
  | .bgp => 0xFF47#16
  | .obp0 => 0xFF48#16
  | .obp1 => 0xFF49#16
  | .wy => 0xFF4A#16
  | .wx => 0xFF4B#16
  | .bootOff => 0xFF50#16

/-- The address map without the overlay, place by place (20_memory.md R61, R70). -/
inductive Located (a : Word) : Target → Prop
  | rom (h : a.toNat < 0x8000) : Located a (.cart a.toNat)
  | vram (i : Nat) (h : i < 8192 ∧ a.toNat = 0x8000 + i) : Located a (.vram i)
  | cartRam (h : 0xA000 ≤ a.toNat ∧ a.toNat < 0xC000) : Located a (.cart a.toNat)
  | wram (i : Nat) (h : i < 8192 ∧ a.toNat = 0xC000 + i) : Located a (.wram i)
  | echo (i : Nat) (h : i < 0x1E00 ∧ a.toNat = 0xE000 + i) : Located a (.wram i)
  | oam (i : Nat) (h : i < 160 ∧ a.toNat = 0xFE00 + i) : Located a (.oam i)
  | reserved (h : 0xFEA0 ≤ a.toNat ∧ a.toNat < 0xFF00) : Located a .reserved
  | io (r : IoReg) (h : a = r.address) : Located a (.io r)
  | port (h : (0xFF00 ≤ a.toNat ∧ a.toNat ≤ 0xFF02) ∨ (0xFF10 ≤ a.toNat ∧ a.toNat ≤ 0xFF3F)) : Located a (.port a)
  | uncovered (h : a.toNat = 0xFF03 ∨ (0xFF08 ≤ a.toNat ∧ a.toNat ≤ 0xFF0E) ∨
      (0xFF4C ≤ a.toNat ∧ a.toNat ≤ 0xFF4F) ∨ (0xFF51 ≤ a.toNat ∧ a.toNat ≤ 0xFF7F)) : Located a .uncovered
  | hram (i : Nat) (h : i < 127 ∧ a.toNat = 0xFF80 + i) : Located a (.hram i)
  | ie (h : a.toNat = 0xFFFF) : Located a .ie

theorem locatedIo {a : Word} (h : 0xFF00 ≤ a.toNat ∧ a.toNat < 0xFF80) : Located a (locateIo a) := by
  unfold locateIo
  split
  case h_22 n _ _ _ _ _ _ _ _ _ _ _ _ _ _ _ _ _ _ _ _ _ =>
    split_ifs with h'
    · exact .port (.inr h')
    · simp only [imp_false] at *
      exact .uncovered (by omega)
  all_goals rename_i hn
  all_goals first
    | exact .port (by omega)
    | exact .io _ (BitVec.eq_of_toNat_eq (by rw [hn]; rfl))

/-- Every address lies in exactly the place the map says. -/
theorem located (a : Word) : Located a (locate false a) := by
  have hlt := a.isLt
  simp only [locate, Bool.false_and, Bool.false_eq_true, if_false]
  split_ifs
  · exact .rom (by assumption)
  · exact .vram _ (by omega)
  · exact .cartRam (by omega)
  · exact .wram _ (by omega)
  · exact .echo _ (by omega)
  · exact .oam _ (by omega)
  · exact .reserved (by omega)
  · exact locatedIo (by omega)
  · exact .hram _ (by omega)
  · exact .ie (by omega)

theorem locate_not_boot (a : Word) (i : Nat) : locate false a ≠ .boot i := by
  intro h
  have := located a
  rw [h] at this
  cases this

theorem locate_overlay_of_not_boot {o : Bool} {a : Word} {t : Target} (h : locate o a = t) (hb : ∀ i, t ≠ .boot i) :
    locate false a = t := by
  rcases locate_overlay o a with h' | ⟨h', -⟩
  · rw [← h', h]
  · exact absurd (h ▸ h') (hb _)

theorem covered_iff_overlay (o : Bool) (a : Word) : Covered a ↔ locate o a ≠ .uncovered := by
  unfold Covered
  rcases locate_overlay o a with h | ⟨h1, h2⟩
  · rw [h]
  · simp [h1, h2]

theorem locate_uncovered {a : Word} (h : ¬Covered a) (o : Bool) : locate o a = .uncovered := by
  rw [covered_iff_overlay o] at h; simpa using h

theorem locate_port {o : Bool} {a p : Word} (h : locate o a = .port p) :
    p = a := by
  have h' := located a
  rw [locate_overlay_of_not_boot h (by simp)] at h'
  cases h'; rfl

theorem locate_cart {o : Bool} {a : Word} {n : Nat} (h : locate o a = .cart n) :
    n = a.toNat := by
  have h' := located a
  rw [locate_overlay_of_not_boot h (by simp)] at h'
  cases h' <;> rfl

theorem locate_boot_range {o : Bool} {a : Word} {i : Nat} (h : locate o a = .boot i) : a.toNat < 0x100 := by
  cases o
  · exact absurd h (locate_not_boot a i)
  · by_contra hn
    have : locate true a = locate false a := by simp [locate, show ¬ a.toNat < 256 by omega]
    exact locate_not_boot a i (this ▸ h)

theorem locate_cart_range {o : Bool} {a : Word} {n : Nat} (h : locate o a = .cart n) :
    n < 0x8000 ∨ (0xA000 ≤ n ∧ n < 0xC000) := by
  have h' := located a
  rw [locate_overlay_of_not_boot h (by simp)] at h'
  cases h' <;> omega

/-- VRAM (20_memory.md R63). -/
theorem locate_vram {o : Bool} {a : Word} {i : Nat} (h : locate o a = .vram i) :
    i < 8192 ∧ a.toNat = 0x8000 + i := by
  have h' := located a
  rw [locate_overlay_of_not_boot h (by simp)] at h'
  cases h'; omega

/-- WRAM and its echo (20_memory.md R65, R66). -/
theorem locate_wram {o : Bool} {a : Word} {i : Nat} (h : locate o a = .wram i) :
    i < 8192 ∧ (a.toNat = 0xC000 + i ∨ (a.toNat = 0xE000 + i ∧ i < 0x1E00)) := by
  have h' := located a
  rw [locate_overlay_of_not_boot h (by simp)] at h'
  cases h' <;> omega

/-- OAM (20_memory.md R67). -/
theorem locate_oam {o : Bool} {a : Word} {i : Nat} (h : locate o a = .oam i) :
    i < 160 ∧ a.toNat = 0xFE00 + i := by
  have h' := located a
  rw [locate_overlay_of_not_boot h (by simp)] at h'
  cases h'; omega

/-- HRAM (20_memory.md R71). -/
theorem locate_hram {o : Bool} {a : Word} {i : Nat} (h : locate o a = .hram i) :
    i < 127 ∧ a.toNat = 0xFF80 + i := by
  have h' := located a
  rw [locate_overlay_of_not_boot h (by simp)] at h'
  cases h'; omega

theorem locate_io {o : Bool} {a : Word} {r : IoReg} (h : locate o a = .io r) :
    a = r.address := by
  have h' := located a
  rw [locate_overlay_of_not_boot h (by simp)] at h'
  cases h'; assumption

/-! ## Reads -/

theorem busRead_of_peek {a : Word} {s : State} {v : Byte} (h : peek a s = some v) : busRead a s = .ok v s := by
  unfold busRead
  unfold peek at h
  revert h
  generalize locate s.bootEnabled a = t
  intro h
  cases t <;> simp_all [readTarget]

/-- `busRead` answers exactly what `Reads` says. -/
theorem busRead_iff {a : Word} {s u : State} {v : Byte} : busRead a s = .ok v u ↔ Reads a s v u := by
  unfold Reads
  constructor
  · intro h
    unfold busRead at h
    unfold peek
    revert h
    generalize ht : locate s.bootEnabled a = t
    intro h
    cases t with
    | port p =>
      obtain rfl := locate_port ht
      right
      refine ⟨rfl, ?_⟩
      cases h; rfl
    | uncovered => simp at h
    | _ =>
      left
      simp only [readTarget, Option.getD_some, Res.ok.injEq] at h
      exact ⟨congrArg some h.1, h.2.symm⟩
  · rintro (⟨h, rfl⟩ | ⟨h, h'⟩)
    · exact busRead_of_peek h
    · simp only [busRead, h]
      rw [← h']

theorem busRead_uncovered {a : Word} {s : State} (h : ¬Covered a) : busRead a s = .raised (busFaulted a s) := by
  simp [busRead, locate_uncovered h, raiseFault, busFaulted]

/-- Every read completes, unless the address is uncovered. -/
theorem busRead_covered {a : Word} (s : State) (h : Covered a) : ∃ v u, busRead a s = .ok v u := by
  rw [covered_iff_overlay s.bootEnabled] at h
  unfold busRead
  revert h
  generalize locate s.bootEnabled a = t
  intro h
  cases t <;> first | contradiction | exact ⟨_, _, rfl⟩

theorem Reads.covered {a : Word} {s u : State} {v : Byte} (h : Reads a s v u) : Covered a := by
  by_contra hc
  have := busRead_iff.2 h
  rw [busRead_uncovered hc] at this
  cases this

/-- A read changes nothing but the record of an external port's answer. -/
theorem Reads.frame {a : Word} {s u : State} {v : Byte} (h : Reads a s v u) :
    u = { s with env := u.env, outbox := u.outbox } := by
  rcases h with ⟨-, rfl⟩ | ⟨-, h⟩
  · rfl
  · have h : u = (portRead a s).2 := (Prod.mk.inj h).2
    rw [h]
    unfold portRead drawByte logEvent
    cases s.env.bytes <;> rfl

theorem Reads.regs {a : Word} {s u : State} {v : Byte} (h : Reads a s v u) : u.regs = s.regs := by
  rw [h.frame]

theorem Reads.peek {a : Word} {s u : State} {v : Byte} (h : Reads a s v u) (b : Word) : peek b u = peek b s := by
  rw [h.frame]
  unfold Machine.peek
  simp only
  generalize locate s.bootEnabled b = t
  cases t with
  | io r => cases r <;> rfl
  | _ => rfl

/-! ## Writes -/

theorem readIo_writeIo_other {r r' : IoReg} (v : Byte) (s : State) (h : r' ≠ r) (hl : r ≠ .lcdc) :
    readIo r' (writeIo r v s) = readIo r' s := by
  cases r <;> first | contradiction | (cases r' <;> first | contradiction | rfl)

/-- A write to a self-contained place leaves what every other place reads. -/
theorem readTarget_writeTarget_other {t t' : Target} (v : Byte) (s : State) (hs : SelfContained t = true) (h : t' ≠ t) :
    readTarget t' (writeTarget t v s) = readTarget t' s := by
  cases t with
  | boot i => rfl
  | cart n => simp [SelfContained] at hs
  | reserved => rfl
  | uncovered => rfl
  | io r =>
    have hl : r ≠ .lcdc := by rintro rfl; simp [SelfContained] at hs
    cases t' with
    | io r' => exact congrArg some (readIo_writeIo_other v s (fun e => h (e ▸ rfl)) hl)
    | _ => cases r <;> rfl
  | vram i =>
    cases t' with
    | vram j => exact congrArg some (Memory.read_write_other _ _ fun e => h (e ▸ rfl))
    | io r => cases r <;> rfl
    | _ => rfl
  | wram i =>
    cases t' with
    | wram j => exact congrArg some (Memory.read_write_other _ _ fun e => h (e ▸ rfl))
    | io r => cases r <;> rfl
    | _ => rfl
  | oam i =>
    cases t' with
    | oam j => exact congrArg some (Memory.read_write_other _ _ fun e => h (e ▸ rfl))
    | io r => cases r <;> rfl
    | _ => rfl
  | hram i =>
    cases t' with
    | hram j => exact congrArg some (Memory.read_write_other _ _ fun e => h (e ▸ rfl))
    | io r => cases r <;> rfl
    | _ => rfl
  | port p =>
    cases t' with
    | io r => cases r <;> rfl
    | _ => rfl
  | ie =>
    cases t' with
    | ie => contradiction
    | io r => cases r <;> rfl
    | _ => rfl

theorem rtcNow_frame (s : State) : (rtcNow s).2 = { s with env := (rtcNow s).2.env, outbox := (rtcNow s).2.outbox } := by
  have h : ∀ s : State, (drawByte s).2 = { s with env := (drawByte s).2.env } := by
    intro s; unfold drawByte; cases s.env.bytes <;> rfl
  simp only [rtcNow]
  rw [h (drawByte _).2, h (drawByte _).2, h (drawByte _).2, h (drawByte _).2, h (logEvent _ _)]
  rfl

/-- A write to the cartridge changes the cartridge, and records what the ports were told. -/
theorem cartWrite_frame (n : Nat) (v : Byte) (s : State) :
    cartWrite n v s = { s with cart := (cartWrite n v s).cart, env := (cartWrite n v s).env,
                               outbox := (cartWrite n v s).outbox } := by
  unfold cartWrite
  split_ifs
  · unfold latchWrite
    split_ifs
    · rfl
    · simp only
      rw [rtcNow_frame]
    · rfl
  · rfl
  · split
    · rfl
    · unfold cartRamStore; split_ifs <;> rfl
    · rfl

@[simp] theorem cartWrite_regs (n : Nat) (v : Byte) (s : State) : (cartWrite n v s).regs = s.regs := by
  rw [cartWrite_frame]
@[simp] theorem cartWrite_cfg (n : Nat) (v : Byte) (s : State) : (cartWrite n v s).cfg = s.cfg := by
  rw [cartWrite_frame]
@[simp] theorem cartWrite_bootEnabled (n : Nat) (v : Byte) (s : State) :
    (cartWrite n v s).bootEnabled = s.bootEnabled := by rw [cartWrite_frame]

/-- What a write leaves of the processor and of the machine's standing data. -/
theorem writeTarget_cpu (t : Target) (v : Byte) (s : State) :
    (writeTarget t v s).regs = s.regs ∧ (writeTarget t v s).irq.ime = s.irq.ime ∧
    (writeTarget t v s).irq.imePending = s.irq.imePending ∧ (writeTarget t v s).irq.halted = s.irq.halted ∧
    (writeTarget t v s).fault = s.fault ∧ (writeTarget t v s).clock = s.clock ∧ (writeTarget t v s).cfg = s.cfg ∧
    (writeTarget t v s).pc0 = s.pc0 ∧ (writeTarget t v s).history = s.history := by
  cases t with
  | cart n => simp only [writeTarget]; rw [cartWrite_frame]; simp
  | io r => cases r <;> exact ⟨rfl, rfl, rfl, rfl, rfl, rfl, rfl, rfl, rfl⟩
  | _ => exact ⟨rfl, rfl, rfl, rfl, rfl, rfl, rfl, rfl, rfl⟩

theorem writeTarget_bootEnabled {t : Target} (v : Byte) (s : State) (h : t ≠ .io .bootOff) :
    (writeTarget t v s).bootEnabled = s.bootEnabled := by
  cases t with
  | cart n => simp [writeTarget]
  | io r => cases r <;> first | rfl | exact absurd rfl h
  | _ => rfl

theorem RtcShadow.get_set (r : RtcShadow) (v : Byte) (i : Nat) : (r.set v i).get i = v := by
  rcases i with _ | _ | _ | _ | i <;> rfl

/-- The cartridge RAM window is the same before and after a write through it. -/
theorem cartWrite_window {n m : Nat} (v : Byte) (s : State) (hn : 0xA000 ≤ n) :
    ramWindow (cartWrite n v s).cfg (cartWrite n v s).cart m = ramWindow s.cfg s.cart m := by
  unfold cartWrite
  rw [if_neg (by omega)]
  split
  · rfl
  · unfold cartRamStore; split_ifs <;> rfl
  · rfl

theorem ramIndex_inj {cfg : Cfg} {c : Cart} {n m : Nat} (h0 : cfg.cartRamSize % 0x2000 = 0)
    (hn : 0xA000 ≤ n ∧ n < 0xC000) (hm : 0xA000 ≤ m ∧ m < 0xC000) (h : ramIndex cfg c m = ramIndex cfg c n) : m = n := by
  obtain ⟨k, hk⟩ := Nat.dvd_of_mod_eq_zero h0
  unfold ramIndex at h
  have key : ∀ x, (ramBankOf cfg c * 0x2000 + x) % cfg.cartRamSize % 0x2000 = x % 0x2000 := by
    intro x
    rw [hk, Nat.mod_mul_right_mod]; omega
  have := congrArg (· % 0x2000) h
  simp only [key] at this
  omega

/-- What the RAM window gives is the index of that address, or a closed window, or a clock register. -/
theorem ramWindow_ram {cfg : Cfg} {c : Cart} {n i : Nat} (h : ramWindow cfg c n = .ram i) :
    i = ramIndex cfg c n ∧ cfg.cartRamSize ≠ 0 ∧ ∀ m, ramWindow cfg c m = .ram (ramIndex cfg c m) := by
  unfold ramWindow at h ⊢
  cases hk : cfg.kind <;> simp only [hk] at h ⊢
  · simp at h
  all_goals
    split_ifs at h with h1
    simp_all

/-- A write through an open window is read back; through an open RAM window of a legal size it leaves every other
address of the window. -/
theorem cartRead_cartWrite {n : Nat} (v : Byte) (s : State) (hn : 0xA000 ≤ n)
    (h : ramWindow s.cfg s.cart n ≠ .closed) : cartRead n (cartWrite n v s) = v := by
  unfold cartRead
  rw [if_neg (by omega), cartWrite_window v s hn]
  unfold cartWrite
  rw [if_neg (by omega)]
  split
  · rename_i hw; exact absurd hw h
  · rename_i i hw
    simp only
    unfold cartRamStore
    split_ifs with h1
    · exact h1
    · simp
  · rename_i i hw
    simp only
    exact RtcShadow.get_set _ _ _

theorem cartRead_cartWrite_other {n m i : Nat} (v : Byte) (s : State) (hn : 0xA000 ≤ n ∧ n < 0xC000)
    (hm : m < 0x8000 ∨ (0xA000 ≤ m ∧ m < 0xC000)) (h0 : s.cfg.cartRamSize % 0x2000 = 0)
    (h : ramWindow s.cfg s.cart n = .ram i) (hmn : m ≠ n) : cartRead m (cartWrite n v s) = cartRead m s := by
  obtain ⟨hi, -, hall⟩ := ramWindow_ram h
  rw [hi] at h
  have hrom : (cartWrite n v s).cart = { s.cart with ram := (cartWrite n v s).cart.ram } := by
    unfold cartWrite; rw [if_neg (by omega)]; simp only [h]; unfold cartRamStore; split_ifs <;> rfl
  unfold cartRead
  split_ifs with h1
  · rw [cartWrite_cfg, hrom]; rfl
  · rw [cartWrite_window v s hn.1, hall m]
    simp only
    unfold cartWrite
    rw [if_neg (by omega)]
    simp only [h]
    unfold cartRamStore
    split_ifs
    · rfl
    · simp only [logEvent_cart]
      refine Memory.read_write_other _ _ fun e => hmn (ramIndex_inj h0 hn ?_ e)
      omega

theorem peek_of_locate {a : Word} {s : State} {t : Target} (h : locate s.bootEnabled a = t) :
    peek a s = readTarget t s := by rw [peek, h]

/-- What `busWrite` does where it does not raise: everything `Stores` says. -/
theorem writeTarget_stores {a : Word} (v : Byte) (s : State) (hc : Covered a) :
    Stores a v s (writeTarget (locate false a) v s) := by
  have hcpu := writeTarget_cpu (locate false a) v s
  refine ⟨hc, rfl, ?_, ?_, ⟨?_, ?_, ?_, ?_, ?_, ?_⟩, hcpu⟩
  · intro hs
    have hb : (writeTarget (locate false a) v s).bootEnabled = s.bootEnabled :=
      writeTarget_bootEnabled v s (by intro h; rw [h] at hs; simp [Storage] at hs)
    have hl : locate s.bootEnabled a = locate false a := by
      rcases locate_overlay s.bootEnabled a with h | ⟨-, h⟩
      · exact h
      · rw [h] at hs; simp [Storage] at hs
    rw [peek_of_locate (t := locate false a) (by rw [hb]; exact hl)]
    revert hs
    generalize locate false a = t
    intro hs
    cases t with
    | vram i => exact congrArg some (Memory.read_write_same _ _ _)
    | wram i => exact congrArg some (Memory.read_write_same _ _ _)
    | oam i => exact congrArg some (Memory.read_write_same _ _ _)
    | hram i => exact congrArg some (Memory.read_write_same _ _ _)
    | ie => rfl
    | _ => simp [Storage] at hs
  · intro n hn h0 hw
    rw [hn]
    have hl : locate s.bootEnabled a = .cart n := by
      rcases locate_overlay s.bootEnabled a with h | ⟨h, h'⟩
      · rw [h, hn]
      · exfalso
        have hn' := locate_cart hn
        rw [h'] at hn
        exact absurd (locate_boot_range h) (by omega)
    rw [peek_of_locate (t := .cart n) (by rw [writeTarget_bootEnabled v s (by simp)]; exact hl)]
    simp only [readTarget, writeTarget]
    rw [cartRead_cartWrite v s h0 hw]
  · intro hs b hb
    rcases locate_overlay s.bootEnabled b with h | ⟨h, h'⟩
    · by_cases hoff : locate false a = .io .bootOff
      · rw [hoff] at hs; simp [SelfContained] at hs
      · rw [peek_of_locate (t := locate false b) (by rw [writeTarget_bootEnabled v s hoff]; exact h), peek_of_locate h,
          readTarget_writeTarget_other v s hs hb]
    · have hoff : locate false a ≠ .io .bootOff := by intro ho; rw [ho] at hs; simp [SelfContained] at hs
      rw [peek_of_locate (t := .boot b.toNat) (by rw [writeTarget_bootEnabled v s hoff]; exact h), peek_of_locate h]
      simp only [readTarget]
      rw [hcpu.2.2.2.2.2.2.1]
  · intro n hn
    rw [hn]
    refine ⟨cartWrite_frame n v s, fun b hb => ?_⟩
    have hbe : (writeTarget (.cart n) v s).bootEnabled = s.bootEnabled := writeTarget_bootEnabled v s (by simp)
    rw [peek_of_locate (by rw [hbe]), peek_of_locate rfl]
    revert hb
    generalize locate s.bootEnabled b = t
    intro hb
    simp only [writeTarget]
    rw [cartWrite_frame]
    cases t with
    | cart m => exact absurd rfl (hb m)
    | io r => cases r <;> rfl
    | _ => rfl
  · intro n i hn h0 hw hsz b hb
    rw [hn]
    have hbe : (writeTarget (.cart n) v s).bootEnabled = s.bootEnabled := writeTarget_bootEnabled v s (by simp)
    rw [peek_of_locate (by rw [hbe]), peek_of_locate rfl]
    generalize ht : locate s.bootEnabled b = t
    simp only [writeTarget]
    cases t with
    | cart m =>
      simp only [readTarget]
      have hm := locate_cart ht
      have hn' := locate_cart hn
      have hr := locate_cart_range hn
      rw [cartRead_cartWrite_other v s (by omega) (locate_cart_range ht) hsz hw]
      rintro rfl
      exact hb (BitVec.eq_of_toNat_eq (by omega))
    | io r => rw [cartWrite_frame]; cases r <;> rfl
    | _ => rw [cartWrite_frame]; rfl
  · intro n hn h0 hw
    rw [hn]
    simp only [writeTarget, cartWrite]
    rw [if_neg (by omega)]
    simp [hw]
  · intro hl
    rw [hl]
    refine ⟨rfl, fun b h0 h1 h4 => ?_⟩
    have hbe : (writeTarget (.io .lcdc) v s).bootEnabled = s.bootEnabled := rfl
    rw [peek_of_locate (by rw [hbe]), peek_of_locate rfl]
    generalize ht : locate s.bootEnabled b = t
    cases t with
    | io r =>
      have hr := locate_io ht
      have hpp : ∀ (p : Ppu), (p.writeLcdc v).scy = p.scy ∧ (p.writeLcdc v).scx = p.scx ∧ (p.writeLcdc v).lyc = p.lyc ∧
          (p.writeLcdc v).bgp = p.bgp ∧ (p.writeLcdc v).obp0 = p.obp0 ∧ (p.writeLcdc v).obp1 = p.obp1 ∧
          (p.writeLcdc v).wy = p.wy ∧ (p.writeLcdc v).wx = p.wx := by
        intro p; unfold Ppu.writeLcdc; simp only; split_ifs <;> simp
      obtain ⟨p1, p2, p3, p4, p5, p6, p7, p8⟩ := hpp s.ppu
      cases r
      case lcdc => exact absurd hr h0
      case stat => exact absurd hr h1
      case ly => exact absurd hr h4
      all_goals simp [readTarget, writeTarget, writeIo, readIo, *]
    | _ => rfl
  · intro hl
    rw [hl]
    refine ⟨rfl, fun b hb => ?_⟩
    have : locate s.bootEnabled b = locate false b := by
      cases s.bootEnabled
      · rfl
      · simp [locate, show ¬ b.toNat < 256 by omega]
    rw [peek_of_locate (t := locate false b) rfl, peek_of_locate this]
    generalize locate false b = t
    cases t with
    | io r => cases r <;> rfl
    | _ => rfl

/-- A write to a covered address completes, and does what `Stores` says. -/
theorem busWrite_covered {a : Word} (v : Byte) (s : State) (h : Covered a) :
    busWrite a v s = .ok () (writeTarget (locate false a) v s) := by
  unfold Covered at h
  unfold busWrite
  revert h
  generalize locate false a = t
  intro h
  cases t <;> first | contradiction | rfl

theorem busWrite_uncovered {a : Word} (v : Byte) (s : State) (h : ¬Covered a) :
    busWrite a v s = .raised (busFaulted a s) := by
  simp [busWrite, locate_uncovered h, raiseFault, busFaulted]

/-- `busWrite` completes exactly when `Stores` holds. -/
theorem busWrite_iff {a : Word} {v : Byte} {s t : State} : busWrite a v s = .ok () t ↔ Stores a v s t := by
  by_cases hc : Covered a
  · rw [busWrite_covered v s hc]
    constructor
    · intro h
      simp only [Res.ok.injEq, true_and] at h
      exact h ▸ writeTarget_stores v s hc
    · intro h
      rw [h.effect]
  · rw [busWrite_uncovered v s hc]
    exact ⟨fun h => (by cases h), fun h => absurd h.covered hc⟩

end Sys2Proof.Machine
end

