-- ==== Sys2Proof/Laws/Ops.lean ====
section
/-! SUPPORT. What the shared operations above one bus access can do, said once: the stack primitives, one T-cycle and `n` of
them, the devices at rest. -/

namespace Sys2Proof.Machine

/-! ## The stack -/

theorem sub_one_sub_one (x : Word) : x - 1 - 1 = x - 2 := by bv_omega

theorem add_one_add_one (x : Word) : x + 1 + 1 = x + 2 := by bv_omega

/-- `push16` completes exactly when `Pushes` holds. -/
theorem push16_iff {v : Word} {s t : State} : push16 v s = .ok () t ↔ Pushes v s t := by
  unfold push16 Pushes
  constructor
  · intro h
    cases h1 : busWrite (setSp (s.regs.sp - 1) s).regs.sp (hi8 v) (setSp (s.regs.sp - 1) s) with
    | raised w => simp only [h1, Res.bind_raised] at h; cases h
    | ok x w =>
      simp only [h1, Res.bind_ok] at h
      have h2 := busWrite_iff.1 h1
      have hsp : w.regs.sp = s.regs.sp - 1 := by rw [h2.cpu.1]; rfl
      refine ⟨w, h2, ?_⟩
      have h3 := busWrite_iff.1 h
      rw [hsp, sub_one_sub_one] at h3
      exact h3
  · rintro ⟨w, h1, h2⟩
    have hsp : w.regs.sp = s.regs.sp - 1 := by rw [h1.cpu.1]
    have h1' := busWrite_iff.2 h1
    simp only [setSp]
    rw [h1']
    simp only [Res.bind_ok]
    rw [hsp, sub_one_sub_one]
    exact busWrite_iff.2 h2

/-- `push16` raises exactly as `PushFaults` says. -/
theorem push16_raised {v : Word} {s t : State} (h : PushFaults v s t) : push16 v s = .raised t := by
  unfold push16
  rcases h with ⟨h, rfl⟩ | ⟨h, w, h1, rfl⟩
  · simp only [setSp]
    rw [busWrite_uncovered _ _ h]
    rfl
  · have hsp : w.regs.sp = s.regs.sp - 1 := by rw [h1.cpu.1]
    have h1' := busWrite_iff.2 h1
    simp only [setSp]
    rw [h1']
    simp only [Res.bind_ok]
    rw [hsp, sub_one_sub_one, busWrite_uncovered _ _ h]

/-- A push to covered addresses completes. -/
theorem push16_covered (v : Word) (s : State) (h1 : Covered (s.regs.sp - 1)) (h2 : Covered (s.regs.sp - 2)) :
    ∃ t, Pushes v s t :=
  ⟨_, _, writeTarget_stores _ _ h1, writeTarget_stores _ _ h2⟩

theorem Pushes.regs {v : Word} {s t : State} (h : Pushes v s t) : t.regs = { s.regs with sp := s.regs.sp - 2 } := by
  obtain ⟨w, h1, h2⟩ := h
  rw [h2.cpu.1]
  simp [h1.cpu.1]

/-- `pop16` completes exactly when `Pops` holds. -/
theorem pop16_iff {v : Word} {s t : State} : pop16 s = .ok v t ↔ Pops v s t := by
  unfold pop16 Pops
  constructor
  · intro h
    cases h1 : busRead s.regs.sp s with
    | raised w => simp only [h1, Res.bind_raised] at h; cases h
    | ok lo w =>
      simp only [h1, Res.bind_ok] at h
      have r1 := busRead_iff.1 h1
      have hsp : w.regs.sp = s.regs.sp := by rw [r1.regs]
      simp only [setSp, hsp] at h
      cases h2 : busRead (s.regs.sp + 1) { w with regs.sp := s.regs.sp + 1 } with
      | raised x => simp only [h2, Res.bind_raised] at h; cases h
      | ok hi x =>
        simp only [h2, Res.bind_ok, Res.ok.injEq] at h
        have r2 := busRead_iff.1 h2
        have hsp2 : x.regs.sp = s.regs.sp + 1 := by rw [r2.regs]
        refine ⟨lo, hi, w, x, r1, r2, h.1.symm, ?_⟩
        rw [← h.2, hsp2, add_one_add_one]
  · rintro ⟨lo, hi, w, x, r1, r2, rfl, rfl⟩
    have hsp : w.regs.sp = s.regs.sp := by rw [r1.regs]
    have hsp2 : x.regs.sp = s.regs.sp + 1 := by rw [r2.regs]
    rw [busRead_iff.2 r1]
    simp only [Res.bind_ok, setSp, hsp]
    rw [busRead_iff.2 r2]
    simp only [Res.bind_ok, hsp2, add_one_add_one]

/-- `pop16` raises as `PopFaults` says. -/
theorem pop16_raised {s t : State} (h : PopFaults s t) : pop16 s = .raised t := by
  unfold pop16
  rcases h with ⟨h, rfl⟩ | ⟨h, lo, w, r1, rfl⟩
  · rw [busRead_uncovered h]; rfl
  · have hsp : w.regs.sp = s.regs.sp := by rw [r1.regs]
    rw [busRead_iff.2 r1]
    simp only [Res.bind_ok, setSp, hsp]
    rw [busRead_uncovered h]
    rfl

theorem Pops.frame {v : Word} {s t : State} (h : Pops v s t) :
    t = { s with env := t.env, outbox := t.outbox, regs.sp := s.regs.sp + 2 } := by
  obtain ⟨lo, hi, w, x, r1, r2, rfl, rfl⟩ := h
  rw [r2.frame]
  simp only
  rw [r1.frame]

/-! ## One T-cycle -/

/-- What a T-cycle leaves alone, whether or not its DMA read raised: the CPU, the memories but OAM, the cartridge, the
configuration. -/
structure TickFrame (s t : State) : Prop where
  regs  : t.regs = s.regs
  ime   : t.irq.ime = s.irq.ime
  pend  : t.irq.imePending = s.irq.imePending
  halt  : t.irq.halted = s.irq.halted
  ie    : t.irq.ie = s.irq.ie
  boot  : t.bootEnabled = s.bootEnabled
  vram  : t.vram = s.vram
  wram  : t.wram = s.wram
  hram  : t.hram = s.hram
  cart  : t.cart = s.cart
  cfg   : t.cfg = s.cfg
  pc0   : t.pc0 = s.pc0
  hist  : t.history = s.history

theorem TickFrame.rfl {s : State} : TickFrame s s := by constructor <;> simp only

theorem TickFrame.trans {s t u : State} (h1 : TickFrame s t) (h2 : TickFrame t u) : TickFrame s u := by
  constructor
  · rw [h2.regs, h1.regs]
  · rw [h2.ime, h1.ime]
  · rw [h2.pend, h1.pend]
  · rw [h2.halt, h1.halt]
  · rw [h2.ie, h1.ie]
  · rw [h2.boot, h1.boot]
  · rw [h2.vram, h1.vram]
  · rw [h2.wram, h1.wram]
  · rw [h2.hram, h1.hram]
  · rw [h2.cart, h1.cart]
  · rw [h2.cfg, h1.cfg]
  · rw [h2.pc0, h1.pc0]
  · rw [h2.hist, h1.hist]

/-- The timer, the PPU and the clock of one T-cycle: nothing else changes but `IF` and the emitted pixel. -/
theorem ppu_timer_frame (s : State) :
    ppuTick (timerTick { s with clock := s.clock + 1 }) =
      { s with clock := s.clock + 1, timer := s.timer.tick.1, ppu := (s.ppu.tick s.vram s.oam).ppu,
               irq.ifl := s.irq.ifl ||| ifBits s.timer.tick.2 0x04#8 ||| (s.ppu.tick s.vram s.oam).raise,
               outbox := match (s.ppu.tick s.vram s.oam).pixel with
                 | none => s.outbox
                 | some shade => .emit (ShadeTable.colour s.cfg.shades shade) :: s.outbox } := by
  unfold ppuTick timerTick
  simp only [requestInt, logEvent]
  split <;> simp_all

/-- The external ticks change a serial request in `IF`, the draws and the record, and nothing else. -/
theorem portTicks_frame (s : State) :
    portTicks s = { s with irq.ifl := (portTicks s).irq.ifl, env := (portTicks s).env,
                           outbox := .serialTick :: .audioTick :: s.outbox } := by
  unfold portTicks serialTick drawBit audioTick logEvent
  cases s.env.bits <;> rfl

/-- One T-cycle, taken apart: the timer and the PPU, then the DMA read and copy, then the external ticks. -/
theorem tick1_cases (s : State) :
    let p := ppuTick (timerTick { s with clock := s.clock + 1 })
    (s.dma.active = false ∧ tick1 s = .ok () (portTicks p)) ∨
    (s.dma.active = true ∧ ∃ v u, Reads s.dma.address p v u ∧
      tick1 s = .ok () (portTicks { u with oam := Memory.write p.oam s.dma.offset.toNat v,
                                            dma := { s.dma with offset := s.dma.offset + 1,
                                                                active := decide (s.dma.offset.toNat + 1 ≠ 160) } })) ∨
    (s.dma.active = true ∧ ¬Covered s.dma.address ∧ tick1 s = .raised (busFaulted s.dma.address p)) := by
  intro p
  have hdma : p.dma = s.dma := by simp only [p]; rw [ppu_timer_frame]
  unfold tick1 dmaTick
  change _ ∨ _ ∨ _
  by_cases ha : s.dma.active = true
  · right
    by_cases hc : Covered s.dma.address
    · left
      obtain ⟨v, u, h⟩ := busRead_covered (a := s.dma.address) p hc
      have hr := busRead_iff.1 h
      refine ⟨ha, v, u, hr, ?_⟩
      have hu1 : u.oam = p.oam := by rw [hr.frame]
      have hu2 : u.dma = s.dma := by rw [hr.frame, hdma]
      change (if p.dma.active = true then _ else _ : Res Unit).bind _ = _
      rw [hdma, if_pos ha]
      change ((busRead s.dma.address p).bind _).bind _ = _
      rw [h]
      simp only [Res.bind_ok, hu1, hu2]
    · right
      refine ⟨ha, hc, ?_⟩
      change (if p.dma.active = true then _ else _ : Res Unit).bind _ = _
      rw [hdma, if_pos ha]
      change ((busRead s.dma.address p).bind _).bind _ = _
      rw [busRead_uncovered hc]
      rfl
  · left
    refine ⟨by simpa using ha, ?_⟩
    change (if p.dma.active = true then _ else _ : Res Unit).bind _ = _
    rw [hdma, if_neg ha]
    rfl

theorem tick1_frame (s : State) : TickFrame s (tick1 s).state := by
  rcases tick1_cases s with ⟨-, h⟩ | ⟨-, v, u, hr, h⟩ | ⟨-, -, h⟩
  · rw [h]; simp only [Res.state_ok]; rw [portTicks_frame, ppu_timer_frame]
    constructor <;> rfl
  · rw [h]; simp only [Res.state_ok]; rw [portTicks_frame, hr.frame, ppu_timer_frame]
    constructor <;> rfl
  · rw [h]; simp only [Res.state_raised, busFaulted]; rw [ppu_timer_frame]
    constructor <;> rfl

/-- A T-cycle that completes advances the clock by one and does not fault; one that raises records a fault. -/
theorem tick1_ok {s t : State} (h : tick1 s = .ok () t) : t.clock = s.clock + 1 ∧ t.fault = s.fault := by
  rcases tick1_cases s with ⟨-, h'⟩ | ⟨-, v, u, hr, h'⟩ | ⟨-, -, h'⟩ <;> rw [h'] at h
  · cases h; rw [portTicks_frame, ppu_timer_frame]; exact ⟨rfl, rfl⟩
  · cases h; rw [portTicks_frame, hr.frame, ppu_timer_frame]; exact ⟨rfl, rfl⟩
  · cases h

theorem tick1_raised {s t : State} (h : tick1 s = .raised t) : t.fault.isSome = true := by
  rcases tick1_cases s with ⟨-, h'⟩ | ⟨-, v, u, hr, h'⟩ | ⟨-, -, h'⟩ <;> rw [h'] at h <;> cases h
  rfl

@[simp] theorem tickN_zero (s : State) : tickN 0 s = .ok () s := by simp [tickN]
theorem tickN_succ (n : Nat) (s : State) : tickN (n + 1) s = (tick1 s).bind fun _ t => tickN n t := by simp [tickN]

/-- A property that every completed T-cycle and every raising one keeps, `n` T-cycles keep. -/
theorem tickN_induct {P : State → Prop} (hok : ∀ s t, P s → tick1 s = .ok () t → P t)
    (hr : ∀ s t, P s → tick1 s = .raised t → P t) (n : Nat) (s : State) (h : P s) : P (tickN n s).state := by
  induction n generalizing s with
  | zero => simpa using h
  | succ n ih =>
    rw [tickN_succ]
    cases ht : tick1 s with
    | ok a t => cases a; exact ih t (hok s t h ht)
    | raised t => exact hr s t h ht

theorem tickN_frame (n : Nat) (s : State) : TickFrame s (tickN n s).state :=
  tickN_induct (P := TickFrame s)
    (fun t u h ht => h.trans (by simpa [ht] using tick1_frame t))
    (fun t u h ht => h.trans (by simpa [ht] using tick1_frame t)) n s .rfl

theorem tickN_ok {n : Nat} {s t : State} (h : tickN n s = .ok () t) : t.clock = s.clock + n ∧ t.fault = s.fault := by
  induction n generalizing s with
  | zero => simp at h; simp [h]
  | succ n ih =>
    rw [tickN_succ] at h
    cases ht : tick1 s with
    | ok a u =>
      cases a
      rw [ht] at h
      obtain ⟨h1, h2⟩ := ih h
      obtain ⟨h3, h4⟩ := tick1_ok ht
      exact ⟨by omega, by rw [h2, h4]⟩
    | raised u => rw [ht] at h; cases h

theorem tickN_raised {n : Nat} {s t : State} (h : tickN n s = .raised t) : t.fault.isSome = true := by
  induction n generalizing s with
  | zero => simp at h
  | succ n ih =>
    rw [tickN_succ] at h
    cases ht : tick1 s with
    | ok a u => cases a; rw [ht] at h; exact ih h
    | raised u => rw [ht] at h; simp only [Res.bind_raised] at h; cases h; exact tick1_raised ht

/-! ## Devices at rest -/

/-- With the LCD off the PPU does nothing. -/
theorem ppuTick_off {s : State} (h : s.ppu.lcdOn = false) : ppuTick s = s := by
  simp [ppuTick, Ppu.tick, h, requestInt]

/-- With the timer disabled only the divider counts. -/
theorem timerTick_disabled {s : State} (h : s.timer.tac.getLsbD 2 = false) :
    timerTick s = { s with timer.divider := s.timer.divider + 1 } := by
  simp only [timerTick, Timer.tick, h, Bool.false_and, Bool.false_eq_true, if_false, ifBits, requestInt, BitVec.or_zero]

/-- With every device at rest a T-cycle advances the clock, the divider and the serial draw. -/
theorem tick1_quiet {n : Nat} {s : State} (h : DevicesQuiet (n + 1) s) :
    tick1 s = .ok () (afterQuiet 1 s) ∧ DevicesQuiet n (afterQuiet 1 s) := by
  obtain ⟨h1, h2, h3, rest, h4⟩ := h
  have hb : s.env.bits = false :: (List.replicate n false ++ rest) := by rw [h4, List.replicate_succ]; rfl
  constructor
  · unfold tick1
    rw [timerTick_disabled (by exact h3), ppuTick_off (by exact h2)]
    simp only [dmaTick, h1, Bool.false_eq_true, if_false, Res.bind_ok, portTicks, serialTick, audioTick, logEvent, drawBit, hb, ifBits, requestInt]
    simp [afterQuiet, tickCalls, hb]
  · exact ⟨h1, h2, h3, rest, by simp [afterQuiet, hb]⟩

/-- `n` T-cycles with every device at rest. -/
theorem tickN_quiet {n : Nat} {s : State} (h : DevicesQuiet n s) : tickN n s = .ok () (afterQuiet n s) := by
  induction n generalizing s with
  | zero => simp [afterQuiet, tickCalls]
  | succ n ih =>
    obtain ⟨h1, h2⟩ := tick1_quiet h
    rw [tickN_succ, h1]
    simp only [Res.bind_ok]
    rw [ih h2]
    simp only [afterQuiet, List.drop_drop, tickCalls, List.append_assoc, List.nil_append]
    congr 2
    · congr 1; simp only [BitVec.add_assoc]; congr 1
      rw [BitVec.add_comm]; simp [BitVec.ofNat_add]
    · omega
    · congr 1
      · congr 1; omega
      · omega

end Sys2Proof.Machine
end

