-- ==== Sys2Proof/Laws/Exec.lean ====
section
/-! SUPPORT. What an instruction and a step can do, said once. `Touch` lists the primitive changes; `exec_touches` says that
every instruction completes in a next state reached by them; `step_cases` takes a step apart; `step_keeps` is the induction
that the invariants of the machine rest on. -/

namespace Sys2Proof.Machine

/-- One primitive change that the CPU makes to the machine. -/
inductive Touch : State → State → Prop
  /-- the register file; the low nibble of `F` stays zero -/
  | regs (s : State) (r : Regs) (h : s.regs.f.extractLsb' 0 4 = 0#4 → r.f.extractLsb' 0 4 = 0#4) : Touch s { s with regs := r }
  /-- the interrupt state but `IE` -/
  | irq (s : State) (q : Irq) (h : q.ie = s.irq.ie) : Touch s { s with irq := q }
  /-- the record of the ports -/
  | ports (s : State) (e : Env) (o : List PortEvent) : Touch s { s with env := e, outbox := o }
  /-- the mark of the step in progress, and the history -/
  | marks (s : State) (p : Word) (h : List HistoryEntry) : Touch s { s with pc0 := p, history := h }
  /-- a raise -/
  | fault (s : State) (r : FaultRecord) : Touch s { s with fault := some r }
  /-- a bus write -/
  | store (s : State) (a : Word) (v : Byte) (h : Covered a) : Touch s (writeTarget (locate false a) v s)

/-- Any number of primitive changes. -/
abbrev Touches : State → State → Prop := Relation.ReflTransGen Touch

theorem Touch.many {s t : State} (h : Touch s t) : Touches s t := .single h

theorem touches_of_regs {s t : State} (h : t = { s with regs := t.regs })
    (hf : s.regs.f.extractLsb' 0 4 = 0#4 → t.regs.f.extractLsb' 0 4 = 0#4) : Touches s t := by
  rw [h]; exact (Touch.regs s t.regs hf).many

theorem touches_of_irq {s t : State} (h : t = { s with irq := t.irq }) (hi : t.irq.ie = s.irq.ie) : Touches s t := by
  rw [h]; exact (Touch.irq s t.irq hi).many

theorem touches_bind {α β : Type} {s : State} {r : Res α} {k : α → State → Res β} (h : Touches s r.state)
    (hk : ∀ a u, r = .ok a u → Touches u (k a u).state) : Touches s (r.bind k).state := by
  cases r with
  | ok a u => exact h.trans (hk a u rfl)
  | raised u => exact h

/-! ## Primitive operations -/

theorem touches_busRead (a : Word) (s : State) : Touches s (busRead a s).state := by
  by_cases hc : Covered a
  · obtain ⟨v, u, h⟩ := busRead_covered s hc
    rw [h, Res.state_ok, (busRead_iff.1 h).frame]
    exact (Touch.ports s _ _).many
  · rw [busRead_uncovered hc]; exact (Touch.fault s _).many

theorem touches_busWrite (a : Word) (v : Byte) (s : State) : Touches s (busWrite a v s).state := by
  by_cases hc : Covered a
  · rw [busWrite_covered v s hc]; exact (Touch.store s a v hc).many
  · rw [busWrite_uncovered v s hc]; exact (Touch.fault s _).many

theorem touches_setPc (v : Word) (s : State) : Touches s (setPc v s) := (Touch.regs s (setPc v s).regs fun h => h).many
theorem touches_setSp (v : Word) (s : State) : Touches s (setSp v s) := (Touch.regs s (setSp v s).regs fun h => h).many
theorem touches_setHl (v : Word) (s : State) : Touches s (setHl v s) := (Touch.regs s (setHl v s).regs fun h => h).many
theorem touches_setReg8 (r : Reg8) (v : Byte) (s : State) : Touches s (setReg8 r v s) := by
  cases r <;> exact touches_of_regs rfl fun h => h
theorem touches_setReg16 (p : Reg16) (v : Word) (s : State) : Touches s (setReg16 p v s) := by
  cases p <;> exact touches_of_regs rfl fun h => h
theorem packFlags_low (z n h c : Bool) : (packFlags z n h c).extractLsb' 0 4 = 0#4 := by
  cases z <;> cases n <;> cases h <;> cases c <;> rfl
theorem maskF_low (v : Byte) : (maskF v).extractLsb' 0 4 = 0#4 := by
  unfold maskF; ext i hi; simp; interval_cases i <;> simp
theorem touches_setFlags (z n h c : Bool) (s : State) : Touches s (setFlags z n h c s) :=
  touches_of_regs rfl fun _ => packFlags_low z n h c
theorem touches_setReg16Stk (p : Reg16Stk) (v : Word) (s : State) : Touches s (setReg16Stk p v s) := by
  cases p
  · exact touches_setReg16 .bc v s
  · exact touches_setReg16 .de v s
  · exact touches_setReg16 .hl v s
  · exact touches_of_regs rfl fun _ => maskF_low _

theorem touches_fetch8 (s : State) : Touches s (fetch8 s).state :=
  touches_bind (touches_busRead _ s) fun _ _ _ => touches_setPc _ _

theorem touches_push16 (v : Word) (s : State) : Touches s (push16 v s).state :=
  (touches_setSp _ s).trans <| touches_bind (touches_busWrite _ _ _) fun _ u _ =>
    (touches_setSp _ u).trans (touches_busWrite _ _ _)

theorem touches_pop16 (s : State) : Touches s (pop16 s).state :=
  touches_bind (touches_busRead _ s) fun _ u _ => (touches_setSp _ u).trans <|
    touches_bind (touches_busRead _ _) fun _ _ _ => touches_setSp _ _

/-! ## The meanings, one lemma for each shared operation -/

/-- A meaning completes in a next state that it reaches by primitive changes. -/
def Completes (s : State) (x : Exec) : Prop := ∃ t, x = .next t ∧ Touches s t

theorem completes_next {s t : State} (h : Touches s t) : Completes s (.next t) := ⟨t, rfl, h⟩
theorem completes_done {s : State} {r : Res Unit} (h : Touches s r.state) : Completes s r.done := ⟨_, rfl, h⟩

theorem completes_loadReg (dst r : Reg8) (s : State) : Completes s (loadReg dst r s) := completes_next (touches_setReg8 _ _ _)
theorem completes_loadImm (dst : Reg8) (n : Byte) (s : State) : Completes s (loadImm dst n s) :=
  completes_next (touches_setReg8 _ _ _)
theorem completes_loadFrom (dst : Reg8) (a : Word) (s : State) : Completes s (loadFrom dst a s) :=
  completes_done (touches_bind (touches_busRead a s) fun _ _ _ => touches_setReg8 _ _ _)
theorem completes_storeAt (a : Word) (v : Byte) (s : State) : Completes s (storeAt a v s) :=
  completes_done (touches_busWrite a v s)
theorem completes_loadAMove (k : Word) (s : State) : Completes s (loadAMove k s) :=
  completes_done (touches_bind (touches_busRead _ s) fun _ _ _ => (touches_setReg8 _ _ _).trans (touches_setHl _ _))
theorem completes_storeAMove (k : Word) (s : State) : Completes s (storeAMove k s) :=
  completes_done (touches_bind (touches_busWrite _ _ s) fun _ _ _ => touches_setHl _ _)
theorem completes_loadPair (p : Reg16) (v : Word) (s : State) : Completes s (loadPair p v s) :=
  completes_next (touches_setReg16 _ _ _)
theorem completes_storeSp (a : Word) (s : State) : Completes s (storeSp a s) :=
  completes_done (touches_bind (touches_busWrite _ _ s) fun _ _ _ => touches_busWrite _ _ _)
theorem completes_loadSpHl (s : State) : Completes s (loadSpHl s) := completes_next (touches_setSp _ _)
theorem completes_loadHlSp (e : Byte) (s : State) : Completes s (loadHlSp e s) :=
  completes_next ((touches_setHl _ _).trans (touches_setFlags _ _ _ _ _))
theorem completes_pushPair (p : Reg16Stk) (s : State) : Completes s (pushPair p s) := completes_done (touches_push16 _ s)
theorem completes_popPair (p : Reg16Stk) (s : State) : Completes s (popPair p s) :=
  completes_done (touches_bind (touches_pop16 s) fun _ _ _ => touches_setReg16Stk _ _ _)

theorem touches_aluApply (k : AluOp) (b : Byte) (s : State) : Touches s (aluApply k b s) := by
  unfold aluApply setAluFlags
  simp only
  split
  · exact touches_setFlags _ _ _ _ _
  · exact (touches_setFlags _ _ _ _ _).trans (touches_setReg8 _ _ _)

theorem completes_aluReg (k : AluOp) (r : Reg8) (s : State) : Completes s (aluReg k r s) :=
  completes_next (touches_aluApply _ _ _)
theorem completes_aluMem (k : AluOp) (s : State) : Completes s (aluMem k s) :=
  completes_done (touches_bind (touches_busRead _ s) fun _ _ _ => touches_aluApply _ _ _)
theorem completes_aluImm (k : AluOp) (n : Byte) (s : State) : Completes s (aluImm k n s) :=
  completes_next (touches_aluApply _ _ _)
theorem completes_incReg (r : Reg8) (s : State) : Completes s (incReg r s) :=
  completes_next ((touches_setFlags _ _ _ _ _).trans (touches_setReg8 _ _ _))
theorem completes_decReg (r : Reg8) (s : State) : Completes s (decReg r s) :=
  completes_next ((touches_setFlags _ _ _ _ _).trans (touches_setReg8 _ _ _))
theorem completes_incMem (s : State) : Completes s (incMem s) :=
  completes_done (touches_bind (touches_busRead _ s) fun _ _ _ =>
    touches_bind (touches_busWrite _ _ _) fun _ _ _ => touches_setFlags _ _ _ _ _)
theorem completes_decMem (s : State) : Completes s (decMem s) :=
  completes_done (touches_bind (touches_busRead _ s) fun _ _ _ =>
    touches_bind (touches_busWrite _ _ _) fun _ _ _ => touches_setFlags _ _ _ _ _)
theorem completes_decimalAdjust (s : State) : Completes s (decimalAdjust s) :=
  completes_next ((touches_setFlags _ _ _ _ _).trans (touches_setReg8 _ _ _))
theorem completes_complementA (s : State) : Completes s (complementA s) :=
  completes_next ((touches_setReg8 _ _ _).trans (touches_setFlags _ _ _ _ _))
theorem completes_setCarry (s : State) : Completes s (setCarry s) := completes_next (touches_setFlags _ _ _ _ _)
theorem completes_complementCarry (s : State) : Completes s (complementCarry s) :=
  completes_next (touches_setFlags _ _ _ _ _)
theorem completes_addHl (p : Reg16) (s : State) : Completes s (addHl p s) :=
  completes_next ((touches_setHl _ _).trans (touches_setFlags _ _ _ _ _))
theorem completes_incPair (p : Reg16) (s : State) : Completes s (incPair p s) := completes_next (touches_setReg16 _ _ _)
theorem completes_decPair (p : Reg16) (s : State) : Completes s (decPair p s) := completes_next (touches_setReg16 _ _ _)
theorem completes_addSp (e : Byte) (s : State) : Completes s (addSp e s) :=
  completes_next ((touches_setSp _ _).trans (touches_setFlags _ _ _ _ _))
theorem completes_rotateA (k : ShiftOp) (s : State) : Completes s (rotateA k s) :=
  completes_next ((touches_setReg8 _ _ _).trans (touches_setFlags _ _ _ _ _))
theorem completes_shiftReg (k : ShiftOp) (r : Reg8) (s : State) : Completes s (shiftReg k r s) :=
  completes_next ((touches_setReg8 _ _ _).trans (touches_setFlags _ _ _ _ _))
theorem completes_shiftMem (k : ShiftOp) (s : State) : Completes s (shiftMem k s) :=
  completes_done (touches_bind (touches_busRead _ s) fun _ _ _ =>
    touches_bind (touches_busWrite _ _ _) fun _ _ _ => touches_setFlags _ _ _ _ _)
theorem completes_bitReg (b : Nat) (r : Reg8) (s : State) : Completes s (bitReg b r s) :=
  completes_next (touches_setFlags _ _ _ _ _)
theorem completes_bitMem (b : Nat) (s : State) : Completes s (bitMem b s) :=
  completes_done (touches_bind (touches_busRead _ s) fun _ _ _ => touches_setFlags _ _ _ _ _)
theorem completes_clearBitReg (b : Nat) (r : Reg8) (s : State) : Completes s (clearBitReg b r s) :=
  completes_next (touches_setReg8 _ _ _)
theorem completes_clearBitMem (b : Nat) (s : State) : Completes s (clearBitMem b s) :=
  completes_done (touches_bind (touches_busRead _ s) fun _ _ _ => touches_busWrite _ _ _)
theorem completes_setBitReg (b : Nat) (r : Reg8) (s : State) : Completes s (setBitReg b r s) :=
  completes_next (touches_setReg8 _ _ _)
theorem completes_setBitMem (b : Nat) (s : State) : Completes s (setBitMem b s) :=
  completes_done (touches_bind (touches_busRead _ s) fun _ _ _ => touches_busWrite _ _ _)
theorem completes_jumpTo (a : Word) (s : State) : Completes s (jumpTo a s) := completes_next (touches_setPc _ _)
theorem completes_jumpIf (cc : Cond) (a : Word) (s : State) : Completes s (jumpIf cc a s) := by
  unfold jumpIf; split
  · exact completes_next (touches_setPc _ _)
  · exact completes_next .refl
theorem completes_jumpRel (e : Byte) (s : State) : Completes s (jumpRel e s) := completes_next (touches_setPc _ _)
theorem completes_jumpRelIf (cc : Cond) (e : Byte) (s : State) : Completes s (jumpRelIf cc e s) := by
  unfold jumpRelIf; split
  · exact completes_next (touches_setPc _ _)
  · exact completes_next .refl
theorem touches_callRes (a : Word) (s : State) : Touches s (callRes a s).state :=
  touches_bind (touches_push16 _ s) fun _ _ _ => touches_setPc _ _
theorem completes_callTo (a : Word) (s : State) : Completes s (callTo a s) := completes_done (touches_callRes _ _)
theorem completes_callIf (cc : Cond) (a : Word) (s : State) : Completes s (callIf cc a s) := by
  unfold callIf; split
  · exact completes_done (touches_callRes _ _)
  · exact completes_done .refl
theorem touches_returnRes (s : State) : Touches s (returnRes s).state :=
  touches_bind (touches_pop16 s) fun _ _ _ => touches_setPc _ _
theorem completes_returnOp (s : State) : Completes s (returnOp s) := completes_done (touches_returnRes _)
theorem completes_returnIf (cc : Cond) (s : State) : Completes s (returnIf cc s) := by
  unfold returnIf; split
  · exact completes_done (touches_returnRes _)
  · exact completes_done .refl
theorem completes_returnInt (s : State) : Completes s (returnInt s) :=
  completes_done (touches_bind (touches_pop16 s) fun _ u _ => (touches_setPc _ u).trans (touches_of_irq rfl rfl))
theorem completes_restart (t : BitVec 3) (s : State) : Completes s (restart t s) := completes_done (touches_callRes _ _)
theorem completes_nopOp (s : State) : Completes s (nopOp s) := completes_next .refl
theorem completes_haltOp (s : State) : Completes s (haltOp s) := completes_next (touches_of_irq rfl rfl)
theorem completes_stopOp (s : State) : Completes s (stopOp s) := completes_next (Touch.fault s _).many
theorem completes_disableInt (s : State) : Completes s (disableInt s) := completes_next (touches_of_irq rfl rfl)
theorem completes_enableInt (s : State) : Completes s (enableInt s) := completes_next (touches_of_irq rfl rfl)
theorem completes_illegalOp (op : Byte) (s : State) : Completes s (illegalOp op s) := completes_next (Touch.fault s _).many
theorem completes_cbPage (b : Byte) (s : State) : Completes s (cbPage b s) := by
  unfold cbPage
  simp only
  split
  · exact completes_shiftReg _ _ _
  · exact completes_shiftMem _ _
  · exact completes_bitReg _ _ _
  · exact completes_bitMem _ _
  · exact completes_clearBitReg _ _ _
  · exact completes_clearBitMem _ _
  · exact completes_setBitReg _ _ _
  · exact completes_setBitMem _ _

/-- Every instruction completes, in a next state that it reaches by primitive changes. -/
theorem exec_completes (i : Instr) (s : State) : Completes s (exec i s) :=
  match i with
  | .nop => completes_nopOp s
  | .ld_bc_nn nn => completes_loadPair .bc nn s
  | .ld_mbc_a => completes_storeAt s.bc s.regs.a s
  | .inc_bc => completes_incPair .bc s
  | .inc_b => completes_incReg .b s
  | .dec_b => completes_decReg .b s
  | .ld_b_n n => completes_loadImm .b n s
  | .rlca => completes_rotateA .rlc s
  | .ld_mnn_sp nn => completes_storeSp nn s
  | .add_hl_bc => completes_addHl .bc s
  | .ld_a_mbc => completes_loadFrom .a s.bc s
  | .dec_bc => completes_decPair .bc s
  | .inc_c => completes_incReg .c s
  | .dec_c => completes_decReg .c s
  | .ld_c_n n => completes_loadImm .c n s
  | .rrca => completes_rotateA .rrc s
  | .stop _ => completes_stopOp s
  | .ld_de_nn nn => completes_loadPair .de nn s
  | .ld_mde_a => completes_storeAt s.de s.regs.a s
  | .inc_de => completes_incPair .de s
  | .inc_d => completes_incReg .d s
  | .dec_d => completes_decReg .d s
  | .ld_d_n n => completes_loadImm .d n s
  | .rla => completes_rotateA .rl s
  | .jr_e e => completes_jumpRel e s
  | .add_hl_de => completes_addHl .de s
  | .ld_a_mde => completes_loadFrom .a s.de s
  | .dec_de => completes_decPair .de s
  | .inc_e => completes_incReg .e s
  | .dec_e => completes_decReg .e s
  | .ld_e_n n => completes_loadImm .e n s
  | .rra => completes_rotateA .rr s
  | .jr_nz_e e => completes_jumpRelIf .nz e s
  | .ld_hl_nn nn => completes_loadPair .hl nn s
  | .ld_mhli_a => completes_storeAMove 1 s
  | .inc_hl => completes_incPair .hl s
  | .inc_h => completes_incReg .h s
  | .dec_h => completes_decReg .h s
  | .ld_h_n n => completes_loadImm .h n s
  | .daa => completes_decimalAdjust s
  | .jr_z_e e => completes_jumpRelIf .z e s
  | .add_hl_hl => completes_addHl .hl s
  | .ld_a_mhli => completes_loadAMove 1 s
  | .dec_hl => completes_decPair .hl s
  | .inc_l => completes_incReg .l s
  | .dec_l => completes_decReg .l s
  | .ld_l_n n => completes_loadImm .l n s
  | .cpl => completes_complementA s
  | .jr_nc_e e => completes_jumpRelIf .nc e s
  | .ld_sp_nn nn => completes_loadPair .sp nn s
  | .ld_mhld_a => completes_storeAMove (-1) s
  | .inc_sp => completes_incPair .sp s
  | .inc_mhl => completes_incMem s
  | .dec_mhl => completes_decMem s
  | .ld_mhl_n n => completes_storeAt s.hl n s
  | .scf => completes_setCarry s
  | .jr_c_e e => completes_jumpRelIf .c e s
  | .add_hl_sp => completes_addHl .sp s
  | .ld_a_mhld => completes_loadAMove (-1) s
  | .dec_sp => completes_decPair .sp s
  | .inc_a => completes_incReg .a s
  | .dec_a => completes_decReg .a s
  | .ld_a_n n => completes_loadImm .a n s
  | .ccf => completes_complementCarry s
  | .ld_b_b => completes_loadReg .b .b s
  | .ld_b_c => completes_loadReg .b .c s
  | .ld_b_d => completes_loadReg .b .d s
  | .ld_b_e => completes_loadReg .b .e s
  | .ld_b_h => completes_loadReg .b .h s
  | .ld_b_l => completes_loadReg .b .l s
  | .ld_b_mhl => completes_loadFrom .b s.hl s
  | .ld_b_a => completes_loadReg .b .a s
  | .ld_c_b => completes_loadReg .c .b s
  | .ld_c_c => completes_loadReg .c .c s
  | .ld_c_d => completes_loadReg .c .d s
  | .ld_c_e => completes_loadReg .c .e s
  | .ld_c_h => completes_loadReg .c .h s
  | .ld_c_l => completes_loadReg .c .l s
  | .ld_c_mhl => completes_loadFrom .c s.hl s
  | .ld_c_a => completes_loadReg .c .a s
  | .ld_d_b => completes_loadReg .d .b s
  | .ld_d_c => completes_loadReg .d .c s
  | .ld_d_d => completes_loadReg .d .d s
  | .ld_d_e => completes_loadReg .d .e s
  | .ld_d_h => completes_loadReg .d .h s
  | .ld_d_l => completes_loadReg .d .l s
  | .ld_d_mhl => completes_loadFrom .d s.hl s
  | .ld_d_a => completes_loadReg .d .a s
  | .ld_e_b => completes_loadReg .e .b s
  | .ld_e_c => completes_loadReg .e .c s
  | .ld_e_d => completes_loadReg .e .d s
  | .ld_e_e => completes_loadReg .e .e s
  | .ld_e_h => completes_loadReg .e .h s
  | .ld_e_l => completes_loadReg .e .l s
  | .ld_e_mhl => completes_loadFrom .e s.hl s
  | .ld_e_a => completes_loadReg .e .a s
  | .ld_h_b => completes_loadReg .h .b s
  | .ld_h_c => completes_loadReg .h .c s
  | .ld_h_d => completes_loadReg .h .d s
  | .ld_h_e => completes_loadReg .h .e s
  | .ld_h_h => completes_loadReg .h .h s
  | .ld_h_l => completes_loadReg .h .l s
  | .ld_h_mhl => completes_loadFrom .h s.hl s
  | .ld_h_a => completes_loadReg .h .a s
  | .ld_l_b => completes_loadReg .l .b s
  | .ld_l_c => completes_loadReg .l .c s
  | .ld_l_d => completes_loadReg .l .d s
  | .ld_l_e => completes_loadReg .l .e s
  | .ld_l_h => completes_loadReg .l .h s
  | .ld_l_l => completes_loadReg .l .l s
  | .ld_l_mhl => completes_loadFrom .l s.hl s
  | .ld_l_a => completes_loadReg .l .a s
  | .ld_mhl_b => completes_storeAt s.hl (s.reg8 .b) s
  | .ld_mhl_c => completes_storeAt s.hl (s.reg8 .c) s
  | .ld_mhl_d => completes_storeAt s.hl (s.reg8 .d) s
  | .ld_mhl_e => completes_storeAt s.hl (s.reg8 .e) s
  | .ld_mhl_h => completes_storeAt s.hl (s.reg8 .h) s
  | .ld_mhl_l => completes_storeAt s.hl (s.reg8 .l) s
  | .halt => completes_haltOp s
  | .ld_mhl_a => completes_storeAt s.hl (s.reg8 .a) s
  | .ld_a_b => completes_loadReg .a .b s
  | .ld_a_c => completes_loadReg .a .c s
  | .ld_a_d => completes_loadReg .a .d s
  | .ld_a_e => completes_loadReg .a .e s
  | .ld_a_h => completes_loadReg .a .h s
  | .ld_a_l => completes_loadReg .a .l s
  | .ld_a_mhl => completes_loadFrom .a s.hl s
  | .ld_a_a => completes_loadReg .a .a s
  | .add_a_b => completes_aluReg .add .b s
  | .add_a_c => completes_aluReg .add .c s
  | .add_a_d => completes_aluReg .add .d s
  | .add_a_e => completes_aluReg .add .e s
  | .add_a_h => completes_aluReg .add .h s
  | .add_a_l => completes_aluReg .add .l s
  | .add_a_mhl => completes_aluMem .add s
  | .add_a_a => completes_aluReg .add .a s
  | .adc_a_b => completes_aluReg .adc .b s
  | .adc_a_c => completes_aluReg .adc .c s
  | .adc_a_d => completes_aluReg .adc .d s
  | .adc_a_e => completes_aluReg .adc .e s
  | .adc_a_h => completes_aluReg .adc .h s
  | .adc_a_l => completes_aluReg .adc .l s
  | .adc_a_mhl => completes_aluMem .adc s
  | .adc_a_a => completes_aluReg .adc .a s
  | .sub_b => completes_aluReg .sub .b s
  | .sub_c => completes_aluReg .sub .c s
  | .sub_d => completes_aluReg .sub .d s
  | .sub_e => completes_aluReg .sub .e s
  | .sub_h => completes_aluReg .sub .h s
  | .sub_l => completes_aluReg .sub .l s
  | .sub_mhl => completes_aluMem .sub s
  | .sub_a => completes_aluReg .sub .a s
  | .sbc_a_b => completes_aluReg .sbc .b s
  | .sbc_a_c => completes_aluReg .sbc .c s
  | .sbc_a_d => completes_aluReg .sbc .d s
  | .sbc_a_e => completes_aluReg .sbc .e s
  | .sbc_a_h => completes_aluReg .sbc .h s
  | .sbc_a_l => completes_aluReg .sbc .l s
  | .sbc_a_mhl => completes_aluMem .sbc s
  | .sbc_a_a => completes_aluReg .sbc .a s
  | .and_b => completes_aluReg .and .b s
  | .and_c => completes_aluReg .and .c s
  | .and_d => completes_aluReg .and .d s
  | .and_e => completes_aluReg .and .e s
  | .and_h => completes_aluReg .and .h s
  | .and_l => completes_aluReg .and .l s
  | .and_mhl => completes_aluMem .and s
  | .and_a => completes_aluReg .and .a s
  | .xor_b => completes_aluReg .xor .b s
  | .xor_c => completes_aluReg .xor .c s
  | .xor_d => completes_aluReg .xor .d s
  | .xor_e => completes_aluReg .xor .e s
  | .xor_h => completes_aluReg .xor .h s
  | .xor_l => completes_aluReg .xor .l s
  | .xor_mhl => completes_aluMem .xor s
  | .xor_a => completes_aluReg .xor .a s
  | .or_b => completes_aluReg .or .b s
  | .or_c => completes_aluReg .or .c s
  | .or_d => completes_aluReg .or .d s
  | .or_e => completes_aluReg .or .e s
  | .or_h => completes_aluReg .or .h s
  | .or_l => completes_aluReg .or .l s
  | .or_mhl => completes_aluMem .or s
  | .or_a => completes_aluReg .or .a s
  | .cp_b => completes_aluReg .cp .b s
  | .cp_c => completes_aluReg .cp .c s
  | .cp_d => completes_aluReg .cp .d s
  | .cp_e => completes_aluReg .cp .e s
  | .cp_h => completes_aluReg .cp .h s
  | .cp_l => completes_aluReg .cp .l s
  | .cp_mhl => completes_aluMem .cp s
  | .cp_a => completes_aluReg .cp .a s
  | .ret_nz => completes_returnIf .nz s
  | .pop_bc => completes_popPair .bc s
  | .jp_nz_nn nn => completes_jumpIf .nz nn s
  | .jp_nn nn => completes_jumpTo nn s
  | .call_nz_nn nn => completes_callIf .nz nn s
  | .push_bc => completes_pushPair .bc s
  | .add_a_n n => completes_aluImm .add n s
  | .rst_00 => completes_restart 0 s
  | .ret_z => completes_returnIf .z s
  | .ret => completes_returnOp s
  | .jp_z_nn nn => completes_jumpIf .z nn s
  | .prefixCb b => completes_cbPage b s
  | .call_z_nn nn => completes_callIf .z nn s
  | .call_nn nn => completes_callTo nn s
  | .adc_a_n n => completes_aluImm .adc n s
  | .rst_08 => completes_restart 1 s
  | .ret_nc => completes_returnIf .nc s
  | .pop_de => completes_popPair .de s
  | .jp_nc_nn nn => completes_jumpIf .nc nn s
  | .illegal_d3 => completes_illegalOp 0xD3#8 s
  | .call_nc_nn nn => completes_callIf .nc nn s
  | .push_de => completes_pushPair .de s
  | .sub_n n => completes_aluImm .sub n s
  | .rst_10 => completes_restart 2 s
  | .ret_c => completes_returnIf .c s
  | .reti => completes_returnInt s
  | .jp_c_nn nn => completes_jumpIf .c nn s
  | .illegal_db => completes_illegalOp 0xDB#8 s
  | .call_c_nn nn => completes_callIf .c nn s
  | .illegal_dd => completes_illegalOp 0xDD#8 s
  | .sbc_a_n n => completes_aluImm .sbc n s
  | .rst_18 => completes_restart 3 s
  | .ldh_mn_a n => completes_storeAt (highPage n) s.regs.a s
  | .pop_hl => completes_popPair .hl s
  | .ldh_mc_a => completes_storeAt (highPage s.regs.c) s.regs.a s
  | .illegal_e3 => completes_illegalOp 0xE3#8 s
  | .illegal_e4 => completes_illegalOp 0xE4#8 s
  | .push_hl => completes_pushPair .hl s
  | .and_n n => completes_aluImm .and n s
  | .rst_20 => completes_restart 4 s
  | .add_sp_e e => completes_addSp e s
  | .jp_hl => completes_jumpTo s.hl s
  | .ld_mnn_a nn => completes_storeAt nn s.regs.a s
  | .illegal_eb => completes_illegalOp 0xEB#8 s
  | .illegal_ec => completes_illegalOp 0xEC#8 s
  | .illegal_ed => completes_illegalOp 0xED#8 s
  | .xor_n n => completes_aluImm .xor n s
  | .rst_28 => completes_restart 5 s
  | .ldh_a_mn n => completes_loadFrom .a (highPage n) s
  | .pop_af => completes_popPair .af s
  | .ldh_a_mc => completes_loadFrom .a (highPage s.regs.c) s
  | .di => completes_disableInt s
  | .illegal_f4 => completes_illegalOp 0xF4#8 s
  | .push_af => completes_pushPair .af s
  | .or_n n => completes_aluImm .or n s
  | .rst_30 => completes_restart 6 s
  | .ld_hl_sp_e e => completes_loadHlSp e s
  | .ld_sp_hl => completes_loadSpHl s
  | .ld_a_mnn nn => completes_loadFrom .a nn s
  | .ei => completes_enableInt s
  | .illegal_fc => completes_illegalOp 0xFC#8 s
  | .illegal_fd => completes_illegalOp 0xFD#8 s
  | .cp_n n => completes_aluImm .cp n s
  | .rst_38 => completes_restart 7 s
  | .rlc_b => completes_shiftReg .rlc .b s
  | .rlc_c => completes_shiftReg .rlc .c s
  | .rlc_d => completes_shiftReg .rlc .d s
  | .rlc_e => completes_shiftReg .rlc .e s
  | .rlc_h => completes_shiftReg .rlc .h s
  | .rlc_l => completes_shiftReg .rlc .l s
  | .rlc_mhl => completes_shiftMem .rlc s
  | .rlc_a => completes_shiftReg .rlc .a s
  | .rrc_b => completes_shiftReg .rrc .b s
  | .rrc_c => completes_shiftReg .rrc .c s
  | .rrc_d => completes_shiftReg .rrc .d s
  | .rrc_e => completes_shiftReg .rrc .e s
  | .rrc_h => completes_shiftReg .rrc .h s
  | .rrc_l => completes_shiftReg .rrc .l s
  | .rrc_mhl => completes_shiftMem .rrc s
  | .rrc_a => completes_shiftReg .rrc .a s
  | .rl_b => completes_shiftReg .rl .b s
  | .rl_c => completes_shiftReg .rl .c s
  | .rl_d => completes_shiftReg .rl .d s
  | .rl_e => completes_shiftReg .rl .e s
  | .rl_h => completes_shiftReg .rl .h s
  | .rl_l => completes_shiftReg .rl .l s
  | .rl_mhl => completes_shiftMem .rl s
  | .rl_a => completes_shiftReg .rl .a s
  | .rr_b => completes_shiftReg .rr .b s
  | .rr_c => completes_shiftReg .rr .c s
  | .rr_d => completes_shiftReg .rr .d s
  | .rr_e => completes_shiftReg .rr .e s
  | .rr_h => completes_shiftReg .rr .h s
  | .rr_l => completes_shiftReg .rr .l s
  | .rr_mhl => completes_shiftMem .rr s
  | .rr_a => completes_shiftReg .rr .a s
  | .sla_b => completes_shiftReg .sla .b s
  | .sla_c => completes_shiftReg .sla .c s
  | .sla_d => completes_shiftReg .sla .d s
  | .sla_e => completes_shiftReg .sla .e s
  | .sla_h => completes_shiftReg .sla .h s
  | .sla_l => completes_shiftReg .sla .l s
  | .sla_mhl => completes_shiftMem .sla s
  | .sla_a => completes_shiftReg .sla .a s
  | .sra_b => completes_shiftReg .sra .b s
  | .sra_c => completes_shiftReg .sra .c s
  | .sra_d => completes_shiftReg .sra .d s
  | .sra_e => completes_shiftReg .sra .e s
  | .sra_h => completes_shiftReg .sra .h s
  | .sra_l => completes_shiftReg .sra .l s
  | .sra_mhl => completes_shiftMem .sra s
  | .sra_a => completes_shiftReg .sra .a s
  | .swap_b => completes_shiftReg .swap .b s
  | .swap_c => completes_shiftReg .swap .c s
  | .swap_d => completes_shiftReg .swap .d s
  | .swap_e => completes_shiftReg .swap .e s
  | .swap_h => completes_shiftReg .swap .h s
  | .swap_l => completes_shiftReg .swap .l s
  | .swap_mhl => completes_shiftMem .swap s
  | .swap_a => completes_shiftReg .swap .a s
  | .srl_b => completes_shiftReg .srl .b s
  | .srl_c => completes_shiftReg .srl .c s
  | .srl_d => completes_shiftReg .srl .d s
  | .srl_e => completes_shiftReg .srl .e s
  | .srl_h => completes_shiftReg .srl .h s
  | .srl_l => completes_shiftReg .srl .l s
  | .srl_mhl => completes_shiftMem .srl s
  | .srl_a => completes_shiftReg .srl .a s
  | .bit_0_b => completes_bitReg 0 .b s
  | .bit_0_c => completes_bitReg 0 .c s
  | .bit_0_d => completes_bitReg 0 .d s
  | .bit_0_e => completes_bitReg 0 .e s
  | .bit_0_h => completes_bitReg 0 .h s
  | .bit_0_l => completes_bitReg 0 .l s
  | .bit_0_mhl => completes_bitMem 0 s
  | .bit_0_a => completes_bitReg 0 .a s
  | .bit_1_b => completes_bitReg 1 .b s
  | .bit_1_c => completes_bitReg 1 .c s
  | .bit_1_d => completes_bitReg 1 .d s
  | .bit_1_e => completes_bitReg 1 .e s
  | .bit_1_h => completes_bitReg 1 .h s
  | .bit_1_l => completes_bitReg 1 .l s
  | .bit_1_mhl => completes_bitMem 1 s
  | .bit_1_a => completes_bitReg 1 .a s
  | .bit_2_b => completes_bitReg 2 .b s
  | .bit_2_c => completes_bitReg 2 .c s
  | .bit_2_d => completes_bitReg 2 .d s
  | .bit_2_e => completes_bitReg 2 .e s
  | .bit_2_h => completes_bitReg 2 .h s
  | .bit_2_l => completes_bitReg 2 .l s
  | .bit_2_mhl => completes_bitMem 2 s
  | .bit_2_a => completes_bitReg 2 .a s
  | .bit_3_b => completes_bitReg 3 .b s
  | .bit_3_c => completes_bitReg 3 .c s
  | .bit_3_d => completes_bitReg 3 .d s
  | .bit_3_e => completes_bitReg 3 .e s
  | .bit_3_h => completes_bitReg 3 .h s
  | .bit_3_l => completes_bitReg 3 .l s
  | .bit_3_mhl => completes_bitMem 3 s
  | .bit_3_a => completes_bitReg 3 .a s
  | .bit_4_b => completes_bitReg 4 .b s
  | .bit_4_c => completes_bitReg 4 .c s
  | .bit_4_d => completes_bitReg 4 .d s
  | .bit_4_e => completes_bitReg 4 .e s
  | .bit_4_h => completes_bitReg 4 .h s
  | .bit_4_l => completes_bitReg 4 .l s
  | .bit_4_mhl => completes_bitMem 4 s
  | .bit_4_a => completes_bitReg 4 .a s
  | .bit_5_b => completes_bitReg 5 .b s
  | .bit_5_c => completes_bitReg 5 .c s
  | .bit_5_d => completes_bitReg 5 .d s
  | .bit_5_e => completes_bitReg 5 .e s
  | .bit_5_h => completes_bitReg 5 .h s
  | .bit_5_l => completes_bitReg 5 .l s
  | .bit_5_mhl => completes_bitMem 5 s
  | .bit_5_a => completes_bitReg 5 .a s
  | .bit_6_b => completes_bitReg 6 .b s
  | .bit_6_c => completes_bitReg 6 .c s
  | .bit_6_d => completes_bitReg 6 .d s
  | .bit_6_e => completes_bitReg 6 .e s
  | .bit_6_h => completes_bitReg 6 .h s
  | .bit_6_l => completes_bitReg 6 .l s
  | .bit_6_mhl => completes_bitMem 6 s
  | .bit_6_a => completes_bitReg 6 .a s
  | .bit_7_b => completes_bitReg 7 .b s
  | .bit_7_c => completes_bitReg 7 .c s
  | .bit_7_d => completes_bitReg 7 .d s
  | .bit_7_e => completes_bitReg 7 .e s
  | .bit_7_h => completes_bitReg 7 .h s
  | .bit_7_l => completes_bitReg 7 .l s
  | .bit_7_mhl => completes_bitMem 7 s
  | .bit_7_a => completes_bitReg 7 .a s
  | .res_0_b => completes_clearBitReg 0 .b s
  | .res_0_c => completes_clearBitReg 0 .c s
  | .res_0_d => completes_clearBitReg 0 .d s
  | .res_0_e => completes_clearBitReg 0 .e s
  | .res_0_h => completes_clearBitReg 0 .h s
  | .res_0_l => completes_clearBitReg 0 .l s
  | .res_0_mhl => completes_clearBitMem 0 s
  | .res_0_a => completes_clearBitReg 0 .a s
  | .res_1_b => completes_clearBitReg 1 .b s
  | .res_1_c => completes_clearBitReg 1 .c s
  | .res_1_d => completes_clearBitReg 1 .d s
  | .res_1_e => completes_clearBitReg 1 .e s
  | .res_1_h => completes_clearBitReg 1 .h s
  | .res_1_l => completes_clearBitReg 1 .l s
  | .res_1_mhl => completes_clearBitMem 1 s
  | .res_1_a => completes_clearBitReg 1 .a s
  | .res_2_b => completes_clearBitReg 2 .b s
  | .res_2_c => completes_clearBitReg 2 .c s
  | .res_2_d => completes_clearBitReg 2 .d s
  | .res_2_e => completes_clearBitReg 2 .e s
  | .res_2_h => completes_clearBitReg 2 .h s
  | .res_2_l => completes_clearBitReg 2 .l s
  | .res_2_mhl => completes_clearBitMem 2 s
  | .res_2_a => completes_clearBitReg 2 .a s
  | .res_3_b => completes_clearBitReg 3 .b s
  | .res_3_c => completes_clearBitReg 3 .c s
  | .res_3_d => completes_clearBitReg 3 .d s
  | .res_3_e => completes_clearBitReg 3 .e s
  | .res_3_h => completes_clearBitReg 3 .h s
  | .res_3_l => completes_clearBitReg 3 .l s
  | .res_3_mhl => completes_clearBitMem 3 s
  | .res_3_a => completes_clearBitReg 3 .a s
  | .res_4_b => completes_clearBitReg 4 .b s
  | .res_4_c => completes_clearBitReg 4 .c s
  | .res_4_d => completes_clearBitReg 4 .d s
  | .res_4_e => completes_clearBitReg 4 .e s
  | .res_4_h => completes_clearBitReg 4 .h s
  | .res_4_l => completes_clearBitReg 4 .l s
  | .res_4_mhl => completes_clearBitMem 4 s
  | .res_4_a => completes_clearBitReg 4 .a s
  | .res_5_b => completes_clearBitReg 5 .b s
  | .res_5_c => completes_clearBitReg 5 .c s
  | .res_5_d => completes_clearBitReg 5 .d s
  | .res_5_e => completes_clearBitReg 5 .e s
  | .res_5_h => completes_clearBitReg 5 .h s
  | .res_5_l => completes_clearBitReg 5 .l s
  | .res_5_mhl => completes_clearBitMem 5 s
  | .res_5_a => completes_clearBitReg 5 .a s
  | .res_6_b => completes_clearBitReg 6 .b s
  | .res_6_c => completes_clearBitReg 6 .c s
  | .res_6_d => completes_clearBitReg 6 .d s
  | .res_6_e => completes_clearBitReg 6 .e s
  | .res_6_h => completes_clearBitReg 6 .h s
  | .res_6_l => completes_clearBitReg 6 .l s
  | .res_6_mhl => completes_clearBitMem 6 s
  | .res_6_a => completes_clearBitReg 6 .a s
  | .res_7_b => completes_clearBitReg 7 .b s
  | .res_7_c => completes_clearBitReg 7 .c s
  | .res_7_d => completes_clearBitReg 7 .d s
  | .res_7_e => completes_clearBitReg 7 .e s
  | .res_7_h => completes_clearBitReg 7 .h s
  | .res_7_l => completes_clearBitReg 7 .l s
  | .res_7_mhl => completes_clearBitMem 7 s
  | .res_7_a => completes_clearBitReg 7 .a s
  | .set_0_b => completes_setBitReg 0 .b s
  | .set_0_c => completes_setBitReg 0 .c s
  | .set_0_d => completes_setBitReg 0 .d s
  | .set_0_e => completes_setBitReg 0 .e s
  | .set_0_h => completes_setBitReg 0 .h s
  | .set_0_l => completes_setBitReg 0 .l s
  | .set_0_mhl => completes_setBitMem 0 s
  | .set_0_a => completes_setBitReg 0 .a s
  | .set_1_b => completes_setBitReg 1 .b s
  | .set_1_c => completes_setBitReg 1 .c s
  | .set_1_d => completes_setBitReg 1 .d s
  | .set_1_e => completes_setBitReg 1 .e s
  | .set_1_h => completes_setBitReg 1 .h s
  | .set_1_l => completes_setBitReg 1 .l s
  | .set_1_mhl => completes_setBitMem 1 s
  | .set_1_a => completes_setBitReg 1 .a s
  | .set_2_b => completes_setBitReg 2 .b s
  | .set_2_c => completes_setBitReg 2 .c s
  | .set_2_d => completes_setBitReg 2 .d s
  | .set_2_e => completes_setBitReg 2 .e s
  | .set_2_h => completes_setBitReg 2 .h s
  | .set_2_l => completes_setBitReg 2 .l s
  | .set_2_mhl => completes_setBitMem 2 s
  | .set_2_a => completes_setBitReg 2 .a s
  | .set_3_b => completes_setBitReg 3 .b s
  | .set_3_c => completes_setBitReg 3 .c s
  | .set_3_d => completes_setBitReg 3 .d s
  | .set_3_e => completes_setBitReg 3 .e s
  | .set_3_h => completes_setBitReg 3 .h s
  | .set_3_l => completes_setBitReg 3 .l s
  | .set_3_mhl => completes_setBitMem 3 s
  | .set_3_a => completes_setBitReg 3 .a s
  | .set_4_b => completes_setBitReg 4 .b s
  | .set_4_c => completes_setBitReg 4 .c s
  | .set_4_d => completes_setBitReg 4 .d s
  | .set_4_e => completes_setBitReg 4 .e s
  | .set_4_h => completes_setBitReg 4 .h s
  | .set_4_l => completes_setBitReg 4 .l s
  | .set_4_mhl => completes_setBitMem 4 s
  | .set_4_a => completes_setBitReg 4 .a s
  | .set_5_b => completes_setBitReg 5 .b s
  | .set_5_c => completes_setBitReg 5 .c s
  | .set_5_d => completes_setBitReg 5 .d s
  | .set_5_e => completes_setBitReg 5 .e s
  | .set_5_h => completes_setBitReg 5 .h s
  | .set_5_l => completes_setBitReg 5 .l s
  | .set_5_mhl => completes_setBitMem 5 s
  | .set_5_a => completes_setBitReg 5 .a s
  | .set_6_b => completes_setBitReg 6 .b s
  | .set_6_c => completes_setBitReg 6 .c s
  | .set_6_d => completes_setBitReg 6 .d s
  | .set_6_e => completes_setBitReg 6 .e s
  | .set_6_h => completes_setBitReg 6 .h s
  | .set_6_l => completes_setBitReg 6 .l s
  | .set_6_mhl => completes_setBitMem 6 s
  | .set_6_a => completes_setBitReg 6 .a s
  | .set_7_b => completes_setBitReg 7 .b s
  | .set_7_c => completes_setBitReg 7 .c s
  | .set_7_d => completes_setBitReg 7 .d s
  | .set_7_e => completes_setBitReg 7 .e s
  | .set_7_h => completes_setBitReg 7 .h s
  | .set_7_l => completes_setBitReg 7 .l s
  | .set_7_mhl => completes_setBitMem 7 s
  | .set_7_a => completes_setBitReg 7 .a s

theorem exec_touches {i : Instr} {s t : State} (h : exec i s = .next t) : Touches s t := by
  obtain ⟨u, h1, h2⟩ := exec_completes i s
  rw [h1] at h
  cases h
  exact h2

/-! ## The step -/

/-- A step taken apart: an idle M-cycle, a fetch that raised, or a fetched instruction's effect and what follows it. -/
theorem step_cases {s t : State} (h : step s = .next t) : s.fault = none ∧
    (((beginStep s).irq.halted = true ∧ t = endStep (tickN 4 (beginStep s))) ∨
     ((beginStep s).irq.halted = false ∧ fetchInstr (beginStep s) = .raised t) ∨
     ((beginStep s).irq.halted = false ∧ ∃ i u w, fetchInstr (beginStep s) = .ok i u ∧ exec i u = .next w ∧
       t = endStep (afterEffect (cost i u) w))) := by
  unfold step at h
  cases hf : s.fault with
  | some r => rw [hf] at h; cases h
  | none =>
    rw [hf] at h
    simp only at h
    refine ⟨rfl, ?_⟩
    by_cases hh : (beginStep s).irq.halted = true
    · rw [if_pos hh] at h
      left
      exact ⟨hh, by cases h; rfl⟩
    · rw [if_neg hh] at h
      right
      have hh' : (beginStep s).irq.halted = false := by simpa using hh
      cases hfi : fetchInstr (beginStep s) with
      | raised u =>
        rw [hfi] at h
        left
        simp only at h
        cases h
        exact ⟨hh', rfl⟩
      | ok i u =>
        rw [hfi] at h
        right
        simp only at h
        obtain ⟨w, hw, -⟩ := exec_completes i u
        rw [hw] at h
        simp only at h
        cases h
        exact ⟨hh', i, u, w, rfl, hw, rfl⟩

theorem touches_beginStep (s : State) : Touches s (beginStep s) :=
  (Touch.marks s s.regs.pc s.history).many.trans (touches_of_irq rfl rfl)

theorem touches_fetchInstr (s : State) : Touches s (fetchInstr s).state := by
  refine touches_bind (touches_fetch8 s) fun op u _ => ?_
  refine ((Touch.marks u u.pc0 _).many : Touches u (recordHistory op u)).trans ?_
  unfold fetchOperands
  split
  · exact .refl
  · exact touches_bind (touches_fetch8 _) fun _ _ _ => .refl
  · exact touches_bind (touches_fetch8 _) fun _ _ _ => touches_bind (touches_fetch8 _) fun _ _ _ => .refl

/-- Taking an interrupt, taken apart: the push raised, or it completed and 20 T-cycles follow. -/
theorem dispatchInterrupt_cases (k : Nat) (s : State) :
    let s' : State := { s with irq := { s.irq with ime := false, imePending := false, halted := false,
                                                   ifl := s.irq.ifl &&& ~~~(1#8 <<< k) } }
    (∃ u, push16 s.regs.pc s' = .raised u ∧ dispatchInterrupt k s = .raised u) ∨
    (∃ u, push16 s.regs.pc s' = .ok () u ∧ dispatchInterrupt k s = tickN 20 (setPc (interruptVector k) u)) := by
  intro s'
  have h : dispatchInterrupt k s = (push16 s.regs.pc s').bind fun _ s => tickN 20 (setPc (interruptVector k) s) := rfl
  cases hp : push16 s.regs.pc s' with
  | raised u => exact .inl ⟨u, rfl, by rw [h, hp, Res.bind_raised]⟩
  | ok x u => exact .inr ⟨u, rfl, by rw [h, hp, Res.bind_ok]⟩

theorem touches_dispatch (k : Nat) (s : State) :
    ∃ u, Touches s u ∧ (dispatchInterrupt k s = .raised u ∨ dispatchInterrupt k s = tickN 20 u) := by
  have h0 : Touches s { s with irq := { s.irq with ime := false, imePending := false, halted := false,
                                                   ifl := s.irq.ifl &&& ~~~(1#8 <<< k) } } := touches_of_irq rfl rfl
  rcases dispatchInterrupt_cases k s with ⟨u, hp, h⟩ | ⟨u, hp, h⟩
  · have h1 := h0.trans (touches_push16 s.regs.pc _)
    rw [hp] at h1
    exact ⟨u, h1, .inl h⟩
  · have h1 := h0.trans (touches_push16 s.regs.pc _)
    rw [hp] at h1
    exact ⟨_, h1.trans (touches_setPc _ _), .inr h⟩

theorem touches_applyImePending (s : State) : Touches s (applyImePending s) := by
  unfold applyImePending
  split
  · exact touches_of_irq rfl rfl
  · exact .refl

/-! ## A raise records a fault -/

theorem busRead_raised_fault {a : Word} {s t : State} (h : busRead a s = .raised t) : t.fault.isSome = true := by
  by_cases hc : Covered a
  · obtain ⟨v, u, h'⟩ := busRead_covered s hc
    rw [h'] at h; cases h
  · rw [busRead_uncovered hc] at h; cases h; rfl

theorem busWrite_raised_fault {a : Word} {v : Byte} {s t : State} (h : busWrite a v s = .raised t) : t.fault.isSome = true := by
  by_cases hc : Covered a
  · rw [busWrite_covered v s hc] at h; cases h
  · rw [busWrite_uncovered v s hc] at h; cases h; rfl

theorem push16_raised_fault {v : Word} {s t : State} (h : push16 v s = .raised t) : t.fault.isSome = true := by
  unfold push16 at h
  simp only at h
  cases h1 : busWrite (setSp (s.regs.sp - 1) s).regs.sp (hi8 v) (setSp (s.regs.sp - 1) s) with
  | raised w => rw [h1] at h; cases h; exact busWrite_raised_fault h1
  | ok x w => rw [h1] at h; exact busWrite_raised_fault h

theorem dispatch_raised_fault {s t : State} (h : dispatchCheck s = .raised t) : t.fault.isSome = true := by
  unfold dispatchCheck at h
  by_cases hi : s.irq.ime = true
  · rw [if_pos hi] at h
    revert h
    generalize lowestPending _ = p
    intro h
    cases p with
    | none => simp only at h; cases h
    | some k =>
      simp only at h
      rcases dispatchInterrupt_cases k s with ⟨u, hp, hd⟩ | ⟨u, hp, hd⟩
      · rw [hd] at h; cases h; exact push16_raised_fault hp
      · rw [hd] at h; exact tickN_raised h
  · rw [if_neg hi] at h; cases h

theorem fetch8_raised_fault {s t : State} (h : fetch8 s = .raised t) : t.fault.isSome = true := by
  unfold fetch8 at h
  cases h1 : busRead s.regs.pc s with
  | raised w => rw [h1] at h; cases h; exact busRead_raised_fault h1
  | ok x w => rw [h1] at h; cases h

theorem fetchInstr_raised_fault {s t : State} (h : fetchInstr s = .raised t) : t.fault.isSome = true := by
  unfold fetchInstr at h
  cases h1 : fetch8 s with
  | raised w => rw [h1] at h; cases h; exact fetch8_raised_fault h1
  | ok x w =>
    rw [h1] at h
    simp only [Res.bind_ok] at h
    unfold fetchOperands at h
    split at h
    · cases h
    · cases h2 : fetch8 (recordHistory x w) with
      | raised y => rw [h2] at h; cases h; exact fetch8_raised_fault h2
      | ok z y => rw [h2] at h; cases h
    · cases h2 : fetch8 (recordHistory x w) with
      | raised y => rw [h2] at h; cases h; exact fetch8_raised_fault h2
      | ok z y =>
        rw [h2] at h; simp only [Res.bind_ok] at h
        cases h3 : fetch8 y with
        | raised y => rw [h3] at h; cases h; exact fetch8_raised_fault h3
        | ok z y => rw [h3] at h; cases h

/-- A step that does not fault ends with no delayed enable. -/
theorem endStep_pending {r : Res Unit} (hr : ∀ u, r = .raised u → u.fault.isSome = true) (hf : (endStep r).fault = none) :
    (endStep r).irq.imePending = false := by
  unfold endStep at *
  cases r with
  | raised u =>
    simp only [Res.bind_raised, Res.state_raised] at hf
    have := hr u rfl
    rw [hf] at this; cases this
  | ok a u =>
    simp only [Res.bind_ok] at *
    cases h2 : dispatchCheck u with
    | raised v =>
      rw [h2] at hf
      have := dispatch_raised_fault h2
      simp only [Res.bind_raised, Res.state_raised] at hf
      rw [hf] at this; cases this
    | ok b v =>
      simp only [Res.bind_ok, Res.state_ok]
      unfold applyImePending
      split
      · rfl
      · simp_all

/-- A property that every primitive change and every T-cycle keeps, a step keeps. -/
theorem step_keeps {P : State → Prop} (htouch : ∀ s t, Touch s t → P s → P t) (htick : ∀ s, P s → P (tick1 s).state)
    {s t : State} (h : step s = .next t) (hs : P s) : P t := by
  have hmany : ∀ s t, Touches s t → P s → P t := by
    intro s t hst
    induction hst with
    | refl => exact id
    | tail _ h ih => exact fun h' => htouch _ _ h (ih h')
  have hticks : ∀ n s, P s → P (tickN n s).state := fun n s hs =>
    tickN_induct (fun u v hu hv => by simpa [hv] using htick u hu) (fun u v hu hv => by simpa [hv] using htick u hu) n s hs
  have hdisp : ∀ s, P s → P (dispatchCheck s).state := by
    intro s hs
    unfold dispatchCheck
    split
    · split
      · rename_i k _
        obtain ⟨u, hu, h | h⟩ := touches_dispatch k s
        · rw [h]; exact hmany _ _ hu hs
        · rw [h]; exact hticks _ _ (hmany _ _ hu hs)
      · exact hs
    · exact hs
  have hend : ∀ r : Res Unit, P r.state → P (endStep r) := by
    intro r hr
    unfold endStep
    cases r with
    | raised u => exact hr
    | ok a u =>
      have := hdisp u hr
      simp only [Res.bind_ok]
      cases hd : dispatchCheck u with
      | raised v => rw [hd] at this; exact this
      | ok b v => rw [hd] at this; exact hmany _ _ (touches_applyImePending v) this
  have hb := hmany _ _ (touches_beginStep s) hs
  obtain ⟨-, ⟨-, rfl⟩ | ⟨-, hf⟩ | ⟨-, i, u, w, hf, hx, rfl⟩⟩ := step_cases h
  · exact hend _ (hticks _ _ hb)
  · have := hmany _ _ (touches_fetchInstr (beginStep s)) hb
    rwa [hf] at this
  · have hu := hmany _ _ (touches_fetchInstr (beginStep s)) hb
    rw [hf] at hu
    have hw := hmany _ _ (exec_touches hx) hu
    refine hend _ ?_
    unfold afterEffect
    split
    · exact hw
    · exact hticks _ _ hw

end Sys2Proof.Machine
end

