-- ==== Sys2Proof/Laws/Step.lean ====
section
/-! SUPPORT. The start and the end of a step, said once: fetching the instruction whose bytes lie at `PC`, the step that
follows, and the dispatch check that finds nothing to take. -/

namespace Sys2Proof.Machine

/-- What a read of the block depends on. -/
theorem peek_congr {s t : State} (a : Word) 
    (h : t = { s with regs := t.regs, pc0 := t.pc0, history := t.history, fault := t.fault, clock := t.clock, env := t.env, outbox := t.outbox,
                      irq := { t.irq with ifl := s.irq.ifl, ie := s.irq.ie } }) : peek a t = peek a s := by
  rw [h]
  unfold peek
  simp only
  generalize locate s.bootEnabled a = tt
  cases tt with
  | io r => cases r <;> rfl
  | _ => rfl

/-- Bytes at an address depend on what reads there alone. -/
theorem bytesAt_congr {s t : State} (h : ∀ a, peek a t = peek a s) (bs : List Byte) (a : Word) :
    BytesAt t a bs ↔ BytesAt s a bs := by
  induction bs generalizing a with
  | nil => exact Iff.rfl
  | cons v bs ih => simp only [BytesAt, h, ih]

/-- `Fetch8` of a byte the block holds. -/
theorem fetch8_of_peek {s : State} {v : Byte} (h : peek s.regs.pc s = some v) : fetch8 s = .ok v (setPc (s.regs.pc + 1) s) := by
  unfold fetch8; rw [busRead_of_peek h]; rfl

/-- The fetch of an instruction whose bytes lie at `PC`. -/
theorem fetchInstr_of_bytes {s : State} {op : Byte} {rest : List Byte} {i : Instr} (hd : decode (op :: rest) = .ok (i, []))
    (hb : BytesAt s s.regs.pc (op :: rest)) :
    fetchInstr s = .ok i (setPc (s.regs.pc + BitVec.ofNat 16 (1 + rest.length)) (recordHistory op s)) := by
  unfold fetchInstr
  rw [fetch8_of_peek hb.1]
  simp only [Res.bind_ok]
  have hb2 := hb.2
  have hl : instrLength op = 1 ∨ instrLength op = 2 ∨ instrLength op = 3 := (by decide : ∀ op : Byte, instrLength op = 1 ∨ instrLength op = 2 ∨ instrLength op = 3) op
  simp only [decode] at hd
  rcases hl with hl | hl | hl <;> rw [hl] at hd ⊢
  · simp only [Except.ok.injEq, Prod.mk.injEq] at hd
    obtain ⟨rfl, rfl⟩ := hd
    rfl
  · rcases rest with _ | ⟨b, _ | ⟨c, rest⟩⟩
    · simp at hd
    · simp only [Except.ok.injEq, Prod.mk.injEq] at hd
      obtain ⟨rfl, -⟩ := hd
      simp only [fetchOperands]
      rw [fetch8_of_peek (v := b) (by rw [peek_congr (s := s) _ rfl]; exact hb2.1)]
      simp only [Res.bind_ok]
      simp only [recordHistory, setPc, add_one_add_one]
      rfl
    · simp at hd
  · rcases rest with _ | ⟨b, _ | ⟨c, _ | ⟨d, rest⟩⟩⟩
    · simp at hd
    · simp at hd
    · simp only [Except.ok.injEq, Prod.mk.injEq] at hd
      obtain ⟨rfl, -⟩ := hd
      simp only [fetchOperands]
      rw [fetch8_of_peek (v := b) (by rw [peek_congr (s := s) _ rfl]; exact hb2.1)]
      simp only [Res.bind_ok]
      rw [fetch8_of_peek (v := c) (by rw [peek_congr (s := s) _ rfl]; exact hb2.2.1)]
      simp only [Res.bind_ok]
      simp only [recordHistory, setPc]
      congr 3
      simp only [List.length_cons, List.length_nil]
      bv_omega
    · simp at hd

/-- The start of a step that executes an instruction. -/
theorem beginStep_running {s : State} (h : Running s) : beginStep s = { s with pc0 := s.regs.pc, irq.halted := false } := by
  unfold beginStep
  rcases h.2 with h | h
  · simp [h]
  · simp [h]

/-- A step, from the effect of the instruction whose bytes lie at `PC`. -/
theorem step_of_bytes {s : State} {op : Byte} {rest : List Byte} {i : Instr} (hr : Running s) (hd : decode (op :: rest) = .ok (i, []))
    (hb : BytesAt s s.regs.pc (op :: rest)) {t : State} (hx : exec i (fetched op (1 + rest.length) s) = .next t) :
    step s = .next (endStep (afterEffect (cost i (fetched op (1 + rest.length) s)) t)) := by
  have hfi : fetchInstr (beginStep s) = .ok i (fetched op (1 + rest.length) s) := by
    rw [beginStep_running hr]
    exact fetchInstr_of_bytes (s := { s with pc0 := s.regs.pc, irq.halted := false }) hd
      ((bytesAt_congr (fun a => peek_congr a rfl) _ _).2 hb)
  have hh : (beginStep s).irq.halted = false := by rw [beginStep_running hr]
  unfold step
  rw [hr.1]
  simp only
  rw [hh, hfi]
  simp only [Bool.false_eq_true, if_false, hx]

theorem lowest_none {p : Byte} (h : p &&& 0x1F#8 = 0x00#8) : lowestPending p = none := by
  revert p; decide

/-- Nothing to take: the dispatch check does nothing. -/
theorem dispatchCheck_idle {s : State} (h : s.irq.ime = false ∨ s.irq.ifl &&& s.irq.ie &&& 0x1F#8 = 0x00#8) :
    dispatchCheck s = .ok () s := by
  unfold dispatchCheck
  rcases h with h | h
  · rw [h]; rfl
  · rw [lowest_none h]; simp

end Sys2Proof.Machine
end

