-- ==== Sys2Proof/Laws/Flags.lean ====
section
/-! SUPPORT. What the pure operations of Flags.lean, Bits.lean and Operands.lean give, said once: the halves of a pair, the
flags as read back, the exact sum and difference, a rotate or shift bit by bit. -/

namespace Sys2Proof

@[simp] theorem lo8_pair (hi lo : Byte) : lo8 (pair hi lo) = lo := by
  apply BitVec.eq_of_getLsbD_eq
  intro i hi
  unfold lo8 pair
  rw [BitVec.getLsbD_extractLsb', BitVec.getLsbD_append]
  simp [hi]

@[simp] theorem hi8_pair (hi lo : Byte) : hi8 (pair hi lo) = hi := by
  apply BitVec.eq_of_getLsbD_eq
  intro i hi
  unfold hi8 pair
  rw [BitVec.getLsbD_extractLsb', BitVec.getLsbD_append]
  simp [hi]

@[simp] theorem pair_hi8_lo8 (v : Word) : pair (hi8 v) (lo8 v) = v := by
  apply BitVec.eq_of_getLsbD_eq
  intro i hi
  unfold pair hi8 lo8
  rw [BitVec.getLsbD_append]
  by_cases h : i < 8
  · simp [h]
  · simp [h, show i - 8 < 8 by omega, show 8 + (i - 8) = i by omega]

namespace Machine

/-- A change of the register file alone leaves every byte as it reads. -/
theorem onlyRegsChange_of_regs {s t : State} (h : t = { s with regs := t.regs }) : OnlyRegsChange s t :=
  ⟨h, fun a => by rw [h]; exact peek_congr a rfl⟩

/-- The flags packed into `F` read back. -/
theorem flagsAre_of_pack {z n h c : Bool} {t : State} (hf : t.regs.f = packFlags z n h c) : FlagsAre z n h c t := by
  unfold FlagsAre State.flagZ State.flagN State.flagH State.flagC FlagNibbleZero
  rw [hf]
  cases z <;> cases n <;> cases h <;> cases c <;> decide

/-- What is stored in `F` from data keeps the four flags and clears the rest. -/
theorem flagsAre_of_mask {v : Byte} {t : State} (hf : t.regs.f = maskF v) :
    FlagsAre (bitAt v 7) (bitAt v 6) (bitAt v 5) (bitAt v 4) t := by
  unfold FlagsAre State.flagZ State.flagN State.flagH State.flagC FlagNibbleZero
  rw [hf]
  exact (by decide : ∀ b : Byte, bitAt (maskF b) 7 = bitAt b 7 ∧ bitAt (maskF b) 6 = bitAt b 6 ∧
    bitAt (maskF b) 5 = bitAt b 5 ∧ bitAt (maskF b) 4 = bitAt b 4 ∧ BitVec.extractLsb' 0 4 (maskF b) = 0#4) v

/-- `Add8`: the result and 256 times the carry make the exact sum. -/
theorem add8_sum (a b : Byte) (cin : Bool) :
    (add8 a b cin).res.toNat + 256 * (add8 a b cin).c.toNat = a.toNat + b.toNat + cin.toNat := by
  have ha := a.isLt
  have hb := b.isLt
  unfold add8
  simp only [BitVec.toNat_ofNat]
  cases cin <;> by_cases h : 0xFF < a.toNat + b.toNat + 1 <;> by_cases h' : 0xFF < a.toNat + b.toNat <;>
    simp [h, h'] <;> omega

/-- `Add8`: `Z` says whether the result is zero. -/
theorem add8_z (a b : Byte) (cin : Bool) : (add8 a b cin).z = decide ((add8 a b cin).res = 0) := by
  unfold add8
  simp [BitVec.toNat_eq, Bool.beq_eq_decide_eq]

/-- `Sub8`: the result less 256 times the borrow is the exact difference. -/
theorem sub8_diff (a b : Byte) (cin : Bool) :
    (sub8 a b cin).res.toNat + b.toNat + cin.toNat = a.toNat + 256 * (sub8 a b cin).c.toNat := by
  have ha := a.isLt
  have hb := b.isLt
  unfold sub8
  simp only [BitVec.toNat_ofInt]
  cases cin <;> by_cases h : a.toNat < b.toNat + 1 <;> by_cases h' : a.toNat < b.toNat <;> simp [h, h'] <;> omega

/-- A rotate or shift, bit by bit. -/
theorem shift8_bits (k : ShiftOp) (v : Byte) (cin : Bool) (j : Nat) (hj : j < 8) :
    bitAt (shift8 k v cin).1 j = k.resultBit v cin j := by
  unfold bitAt shift8 ShiftOp.resultBit bitAt
  cases k <;> cases cin <;> interval_cases j <;> simp

/-- The bit a rotate or shift moves out. -/
theorem shift8_out (k : ShiftOp) (v : Byte) (cin : Bool) : (shift8 k v cin).2 = k.bitOut v := by cases k <;> rfl

/-- A jump's or stack offset's sign extension is the addition of a signed number. -/
theorem add_sext16 (v : Word) (e : Byte) : v + sext16 e = BitVec.ofInt 16 ((v.toNat : Int) + e.toInt) := by
  apply BitVec.eq_of_toInt_eq
  unfold sext16
  rw [BitVec.toInt_add, BitVec.toInt_signExtend_of_le (by decide), BitVec.toInt_ofInt]
  simp [BitVec.toInt_eq_toNat_bmod, Int.bmod_add_bmod]

end Machine

end Sys2Proof
end

