-- ==== Sys2Proof/Laws/PerInstr.lean ====
section
/-! SUPPORT. Per instruction: its encoding has the length its first byte gives (30_encoding.md R120, R138). -/

namespace Sys2Proof.Laws.EncodingLength

/-- The words of `i` are as many as the length table gives for the first of them. -/
def Statement (i : Instr) : Prop := ∃ op rest, encode i = op :: rest ∧ instrLength op = 1 + rest.length

theorem ld_bc_nn (nn : Word) : Statement (.ld_bc_nn nn) := ⟨_, _, rfl, rfl⟩
theorem ld_b_n (n : Byte) : Statement (.ld_b_n n) := ⟨_, _, rfl, rfl⟩
theorem ld_mnn_sp (nn : Word) : Statement (.ld_mnn_sp nn) := ⟨_, _, rfl, rfl⟩
theorem ld_c_n (n : Byte) : Statement (.ld_c_n n) := ⟨_, _, rfl, rfl⟩
theorem stop (n : Byte) : Statement (.stop n) := ⟨_, _, rfl, rfl⟩
theorem ld_de_nn (nn : Word) : Statement (.ld_de_nn nn) := ⟨_, _, rfl, rfl⟩
theorem ld_d_n (n : Byte) : Statement (.ld_d_n n) := ⟨_, _, rfl, rfl⟩
theorem jr_e (e : Byte) : Statement (.jr_e e) := ⟨_, _, rfl, rfl⟩
theorem ld_e_n (n : Byte) : Statement (.ld_e_n n) := ⟨_, _, rfl, rfl⟩
theorem jr_nz_e (e : Byte) : Statement (.jr_nz_e e) := ⟨_, _, rfl, rfl⟩
theorem ld_hl_nn (nn : Word) : Statement (.ld_hl_nn nn) := ⟨_, _, rfl, rfl⟩
theorem ld_h_n (n : Byte) : Statement (.ld_h_n n) := ⟨_, _, rfl, rfl⟩
theorem jr_z_e (e : Byte) : Statement (.jr_z_e e) := ⟨_, _, rfl, rfl⟩
theorem ld_l_n (n : Byte) : Statement (.ld_l_n n) := ⟨_, _, rfl, rfl⟩
theorem jr_nc_e (e : Byte) : Statement (.jr_nc_e e) := ⟨_, _, rfl, rfl⟩
theorem ld_sp_nn (nn : Word) : Statement (.ld_sp_nn nn) := ⟨_, _, rfl, rfl⟩
theorem ld_mhl_n (n : Byte) : Statement (.ld_mhl_n n) := ⟨_, _, rfl, rfl⟩
theorem jr_c_e (e : Byte) : Statement (.jr_c_e e) := ⟨_, _, rfl, rfl⟩
theorem ld_a_n (n : Byte) : Statement (.ld_a_n n) := ⟨_, _, rfl, rfl⟩
theorem jp_nz_nn (nn : Word) : Statement (.jp_nz_nn nn) := ⟨_, _, rfl, rfl⟩
theorem jp_nn (nn : Word) : Statement (.jp_nn nn) := ⟨_, _, rfl, rfl⟩
theorem call_nz_nn (nn : Word) : Statement (.call_nz_nn nn) := ⟨_, _, rfl, rfl⟩
theorem add_a_n (n : Byte) : Statement (.add_a_n n) := ⟨_, _, rfl, rfl⟩
theorem jp_z_nn (nn : Word) : Statement (.jp_z_nn nn) := ⟨_, _, rfl, rfl⟩
theorem prefixCb (b : Byte) : Statement (.prefixCb b) := ⟨_, _, rfl, rfl⟩
theorem call_z_nn (nn : Word) : Statement (.call_z_nn nn) := ⟨_, _, rfl, rfl⟩
theorem call_nn (nn : Word) : Statement (.call_nn nn) := ⟨_, _, rfl, rfl⟩
theorem adc_a_n (n : Byte) : Statement (.adc_a_n n) := ⟨_, _, rfl, rfl⟩
theorem jp_nc_nn (nn : Word) : Statement (.jp_nc_nn nn) := ⟨_, _, rfl, rfl⟩
theorem call_nc_nn (nn : Word) : Statement (.call_nc_nn nn) := ⟨_, _, rfl, rfl⟩
theorem sub_n (n : Byte) : Statement (.sub_n n) := ⟨_, _, rfl, rfl⟩
theorem jp_c_nn (nn : Word) : Statement (.jp_c_nn nn) := ⟨_, _, rfl, rfl⟩
theorem call_c_nn (nn : Word) : Statement (.call_c_nn nn) := ⟨_, _, rfl, rfl⟩
theorem sbc_a_n (n : Byte) : Statement (.sbc_a_n n) := ⟨_, _, rfl, rfl⟩
theorem ldh_mn_a (n : Byte) : Statement (.ldh_mn_a n) := ⟨_, _, rfl, rfl⟩
theorem and_n (n : Byte) : Statement (.and_n n) := ⟨_, _, rfl, rfl⟩
theorem add_sp_e (e : Byte) : Statement (.add_sp_e e) := ⟨_, _, rfl, rfl⟩
theorem ld_mnn_a (nn : Word) : Statement (.ld_mnn_a nn) := ⟨_, _, rfl, rfl⟩
theorem xor_n (n : Byte) : Statement (.xor_n n) := ⟨_, _, rfl, rfl⟩
theorem ldh_a_mn (n : Byte) : Statement (.ldh_a_mn n) := ⟨_, _, rfl, rfl⟩
theorem or_n (n : Byte) : Statement (.or_n n) := ⟨_, _, rfl, rfl⟩
theorem ld_hl_sp_e (e : Byte) : Statement (.ld_hl_sp_e e) := ⟨_, _, rfl, rfl⟩
theorem ld_a_mnn (nn : Word) : Statement (.ld_a_mnn nn) := ⟨_, _, rfl, rfl⟩
theorem cp_n (n : Byte) : Statement (.cp_n n) := ⟨_, _, rfl, rfl⟩
theorem nop : Statement (.nop) := ⟨_, _, rfl, rfl⟩
theorem ld_mbc_a : Statement (.ld_mbc_a) := ⟨_, _, rfl, rfl⟩
theorem inc_bc : Statement (.inc_bc) := ⟨_, _, rfl, rfl⟩
theorem inc_b : Statement (.inc_b) := ⟨_, _, rfl, rfl⟩
theorem dec_b : Statement (.dec_b) := ⟨_, _, rfl, rfl⟩
theorem rlca : Statement (.rlca) := ⟨_, _, rfl, rfl⟩
theorem add_hl_bc : Statement (.add_hl_bc) := ⟨_, _, rfl, rfl⟩
theorem ld_a_mbc : Statement (.ld_a_mbc) := ⟨_, _, rfl, rfl⟩
theorem dec_bc : Statement (.dec_bc) := ⟨_, _, rfl, rfl⟩
theorem inc_c : Statement (.inc_c) := ⟨_, _, rfl, rfl⟩
theorem dec_c : Statement (.dec_c) := ⟨_, _, rfl, rfl⟩
theorem rrca : Statement (.rrca) := ⟨_, _, rfl, rfl⟩
theorem ld_mde_a : Statement (.ld_mde_a) := ⟨_, _, rfl, rfl⟩
theorem inc_de : Statement (.inc_de) := ⟨_, _, rfl, rfl⟩
theorem inc_d : Statement (.inc_d) := ⟨_, _, rfl, rfl⟩
theorem dec_d : Statement (.dec_d) := ⟨_, _, rfl, rfl⟩
theorem rla : Statement (.rla) := ⟨_, _, rfl, rfl⟩
theorem add_hl_de : Statement (.add_hl_de) := ⟨_, _, rfl, rfl⟩
theorem ld_a_mde : Statement (.ld_a_mde) := ⟨_, _, rfl, rfl⟩
theorem dec_de : Statement (.dec_de) := ⟨_, _, rfl, rfl⟩
theorem inc_e : Statement (.inc_e) := ⟨_, _, rfl, rfl⟩
theorem dec_e : Statement (.dec_e) := ⟨_, _, rfl, rfl⟩
theorem rra : Statement (.rra) := ⟨_, _, rfl, rfl⟩
theorem ld_mhli_a : Statement (.ld_mhli_a) := ⟨_, _, rfl, rfl⟩
theorem inc_hl : Statement (.inc_hl) := ⟨_, _, rfl, rfl⟩
theorem inc_h : Statement (.inc_h) := ⟨_, _, rfl, rfl⟩
theorem dec_h : Statement (.dec_h) := ⟨_, _, rfl, rfl⟩
theorem daa : Statement (.daa) := ⟨_, _, rfl, rfl⟩
theorem add_hl_hl : Statement (.add_hl_hl) := ⟨_, _, rfl, rfl⟩
theorem ld_a_mhli : Statement (.ld_a_mhli) := ⟨_, _, rfl, rfl⟩
theorem dec_hl : Statement (.dec_hl) := ⟨_, _, rfl, rfl⟩
theorem inc_l : Statement (.inc_l) := ⟨_, _, rfl, rfl⟩
theorem dec_l : Statement (.dec_l) := ⟨_, _, rfl, rfl⟩
theorem cpl : Statement (.cpl) := ⟨_, _, rfl, rfl⟩
theorem ld_mhld_a : Statement (.ld_mhld_a) := ⟨_, _, rfl, rfl⟩
theorem inc_sp : Statement (.inc_sp) := ⟨_, _, rfl, rfl⟩
theorem inc_mhl : Statement (.inc_mhl) := ⟨_, _, rfl, rfl⟩
theorem dec_mhl : Statement (.dec_mhl) := ⟨_, _, rfl, rfl⟩
theorem scf : Statement (.scf) := ⟨_, _, rfl, rfl⟩
theorem add_hl_sp : Statement (.add_hl_sp) := ⟨_, _, rfl, rfl⟩
theorem ld_a_mhld : Statement (.ld_a_mhld) := ⟨_, _, rfl, rfl⟩
theorem dec_sp : Statement (.dec_sp) := ⟨_, _, rfl, rfl⟩
theorem inc_a : Statement (.inc_a) := ⟨_, _, rfl, rfl⟩
theorem dec_a : Statement (.dec_a) := ⟨_, _, rfl, rfl⟩
theorem ccf : Statement (.ccf) := ⟨_, _, rfl, rfl⟩
theorem ld_b_b : Statement (.ld_b_b) := ⟨_, _, rfl, rfl⟩
theorem ld_b_c : Statement (.ld_b_c) := ⟨_, _, rfl, rfl⟩
theorem ld_b_d : Statement (.ld_b_d) := ⟨_, _, rfl, rfl⟩
theorem ld_b_e : Statement (.ld_b_e) := ⟨_, _, rfl, rfl⟩
theorem ld_b_h : Statement (.ld_b_h) := ⟨_, _, rfl, rfl⟩
theorem ld_b_l : Statement (.ld_b_l) := ⟨_, _, rfl, rfl⟩
theorem ld_b_mhl : Statement (.ld_b_mhl) := ⟨_, _, rfl, rfl⟩
theorem ld_b_a : Statement (.ld_b_a) := ⟨_, _, rfl, rfl⟩
theorem ld_c_b : Statement (.ld_c_b) := ⟨_, _, rfl, rfl⟩
theorem ld_c_c : Statement (.ld_c_c) := ⟨_, _, rfl, rfl⟩
theorem ld_c_d : Statement (.ld_c_d) := ⟨_, _, rfl, rfl⟩
theorem ld_c_e : Statement (.ld_c_e) := ⟨_, _, rfl, rfl⟩
theorem ld_c_h : Statement (.ld_c_h) := ⟨_, _, rfl, rfl⟩
theorem ld_c_l : Statement (.ld_c_l) := ⟨_, _, rfl, rfl⟩
theorem ld_c_mhl : Statement (.ld_c_mhl) := ⟨_, _, rfl, rfl⟩
theorem ld_c_a : Statement (.ld_c_a) := ⟨_, _, rfl, rfl⟩
theorem ld_d_b : Statement (.ld_d_b) := ⟨_, _, rfl, rfl⟩
theorem ld_d_c : Statement (.ld_d_c) := ⟨_, _, rfl, rfl⟩
theorem ld_d_d : Statement (.ld_d_d) := ⟨_, _, rfl, rfl⟩
theorem ld_d_e : Statement (.ld_d_e) := ⟨_, _, rfl, rfl⟩
theorem ld_d_h : Statement (.ld_d_h) := ⟨_, _, rfl, rfl⟩
theorem ld_d_l : Statement (.ld_d_l) := ⟨_, _, rfl, rfl⟩
theorem ld_d_mhl : Statement (.ld_d_mhl) := ⟨_, _, rfl, rfl⟩
theorem ld_d_a : Statement (.ld_d_a) := ⟨_, _, rfl, rfl⟩
theorem ld_e_b : Statement (.ld_e_b) := ⟨_, _, rfl, rfl⟩
theorem ld_e_c : Statement (.ld_e_c) := ⟨_, _, rfl, rfl⟩
theorem ld_e_d : Statement (.ld_e_d) := ⟨_, _, rfl, rfl⟩
theorem ld_e_e : Statement (.ld_e_e) := ⟨_, _, rfl, rfl⟩
theorem ld_e_h : Statement (.ld_e_h) := ⟨_, _, rfl, rfl⟩
theorem ld_e_l : Statement (.ld_e_l) := ⟨_, _, rfl, rfl⟩
theorem ld_e_mhl : Statement (.ld_e_mhl) := ⟨_, _, rfl, rfl⟩
theorem ld_e_a : Statement (.ld_e_a) := ⟨_, _, rfl, rfl⟩
theorem ld_h_b : Statement (.ld_h_b) := ⟨_, _, rfl, rfl⟩
theorem ld_h_c : Statement (.ld_h_c) := ⟨_, _, rfl, rfl⟩
theorem ld_h_d : Statement (.ld_h_d) := ⟨_, _, rfl, rfl⟩
theorem ld_h_e : Statement (.ld_h_e) := ⟨_, _, rfl, rfl⟩
theorem ld_h_h : Statement (.ld_h_h) := ⟨_, _, rfl, rfl⟩
theorem ld_h_l : Statement (.ld_h_l) := ⟨_, _, rfl, rfl⟩
theorem ld_h_mhl : Statement (.ld_h_mhl) := ⟨_, _, rfl, rfl⟩
theorem ld_h_a : Statement (.ld_h_a) := ⟨_, _, rfl, rfl⟩
theorem ld_l_b : Statement (.ld_l_b) := ⟨_, _, rfl, rfl⟩
theorem ld_l_c : Statement (.ld_l_c) := ⟨_, _, rfl, rfl⟩
theorem ld_l_d : Statement (.ld_l_d) := ⟨_, _, rfl, rfl⟩
theorem ld_l_e : Statement (.ld_l_e) := ⟨_, _, rfl, rfl⟩
theorem ld_l_h : Statement (.ld_l_h) := ⟨_, _, rfl, rfl⟩
theorem ld_l_l : Statement (.ld_l_l) := ⟨_, _, rfl, rfl⟩
theorem ld_l_mhl : Statement (.ld_l_mhl) := ⟨_, _, rfl, rfl⟩
theorem ld_l_a : Statement (.ld_l_a) := ⟨_, _, rfl, rfl⟩
theorem ld_mhl_b : Statement (.ld_mhl_b) := ⟨_, _, rfl, rfl⟩
theorem ld_mhl_c : Statement (.ld_mhl_c) := ⟨_, _, rfl, rfl⟩
theorem ld_mhl_d : Statement (.ld_mhl_d) := ⟨_, _, rfl, rfl⟩
theorem ld_mhl_e : Statement (.ld_mhl_e) := ⟨_, _, rfl, rfl⟩
theorem ld_mhl_h : Statement (.ld_mhl_h) := ⟨_, _, rfl, rfl⟩
theorem ld_mhl_l : Statement (.ld_mhl_l) := ⟨_, _, rfl, rfl⟩
theorem halt : Statement (.halt) := ⟨_, _, rfl, rfl⟩
theorem ld_mhl_a : Statement (.ld_mhl_a) := ⟨_, _, rfl, rfl⟩
theorem ld_a_b : Statement (.ld_a_b) := ⟨_, _, rfl, rfl⟩
theorem ld_a_c : Statement (.ld_a_c) := ⟨_, _, rfl, rfl⟩
theorem ld_a_d : Statement (.ld_a_d) := ⟨_, _, rfl, rfl⟩
theorem ld_a_e : Statement (.ld_a_e) := ⟨_, _, rfl, rfl⟩
theorem ld_a_h : Statement (.ld_a_h) := ⟨_, _, rfl, rfl⟩
theorem ld_a_l : Statement (.ld_a_l) := ⟨_, _, rfl, rfl⟩
theorem ld_a_mhl : Statement (.ld_a_mhl) := ⟨_, _, rfl, rfl⟩
theorem ld_a_a : Statement (.ld_a_a) := ⟨_, _, rfl, rfl⟩
theorem add_a_b : Statement (.add_a_b) := ⟨_, _, rfl, rfl⟩
theorem add_a_c : Statement (.add_a_c) := ⟨_, _, rfl, rfl⟩
theorem add_a_d : Statement (.add_a_d) := ⟨_, _, rfl, rfl⟩
theorem add_a_e : Statement (.add_a_e) := ⟨_, _, rfl, rfl⟩
theorem add_a_h : Statement (.add_a_h) := ⟨_, _, rfl, rfl⟩
theorem add_a_l : Statement (.add_a_l) := ⟨_, _, rfl, rfl⟩
theorem add_a_mhl : Statement (.add_a_mhl) := ⟨_, _, rfl, rfl⟩
theorem add_a_a : Statement (.add_a_a) := ⟨_, _, rfl, rfl⟩
theorem adc_a_b : Statement (.adc_a_b) := ⟨_, _, rfl, rfl⟩
theorem adc_a_c : Statement (.adc_a_c) := ⟨_, _, rfl, rfl⟩
theorem adc_a_d : Statement (.adc_a_d) := ⟨_, _, rfl, rfl⟩
theorem adc_a_e : Statement (.adc_a_e) := ⟨_, _, rfl, rfl⟩
theorem adc_a_h : Statement (.adc_a_h) := ⟨_, _, rfl, rfl⟩
theorem adc_a_l : Statement (.adc_a_l) := ⟨_, _, rfl, rfl⟩
theorem adc_a_mhl : Statement (.adc_a_mhl) := ⟨_, _, rfl, rfl⟩
theorem adc_a_a : Statement (.adc_a_a) := ⟨_, _, rfl, rfl⟩
theorem sub_b : Statement (.sub_b) := ⟨_, _, rfl, rfl⟩
theorem sub_c : Statement (.sub_c) := ⟨_, _, rfl, rfl⟩
theorem sub_d : Statement (.sub_d) := ⟨_, _, rfl, rfl⟩
theorem sub_e : Statement (.sub_e) := ⟨_, _, rfl, rfl⟩
theorem sub_h : Statement (.sub_h) := ⟨_, _, rfl, rfl⟩
theorem sub_l : Statement (.sub_l) := ⟨_, _, rfl, rfl⟩
theorem sub_mhl : Statement (.sub_mhl) := ⟨_, _, rfl, rfl⟩
theorem sub_a : Statement (.sub_a) := ⟨_, _, rfl, rfl⟩
theorem sbc_a_b : Statement (.sbc_a_b) := ⟨_, _, rfl, rfl⟩
theorem sbc_a_c : Statement (.sbc_a_c) := ⟨_, _, rfl, rfl⟩
theorem sbc_a_d : Statement (.sbc_a_d) := ⟨_, _, rfl, rfl⟩
theorem sbc_a_e : Statement (.sbc_a_e) := ⟨_, _, rfl, rfl⟩
theorem sbc_a_h : Statement (.sbc_a_h) := ⟨_, _, rfl, rfl⟩
theorem sbc_a_l : Statement (.sbc_a_l) := ⟨_, _, rfl, rfl⟩
theorem sbc_a_mhl : Statement (.sbc_a_mhl) := ⟨_, _, rfl, rfl⟩
theorem sbc_a_a : Statement (.sbc_a_a) := ⟨_, _, rfl, rfl⟩
theorem and_b : Statement (.and_b) := ⟨_, _, rfl, rfl⟩
theorem and_c : Statement (.and_c) := ⟨_, _, rfl, rfl⟩
theorem and_d : Statement (.and_d) := ⟨_, _, rfl, rfl⟩
theorem and_e : Statement (.and_e) := ⟨_, _, rfl, rfl⟩
theorem and_h : Statement (.and_h) := ⟨_, _, rfl, rfl⟩
theorem and_l : Statement (.and_l) := ⟨_, _, rfl, rfl⟩
theorem and_mhl : Statement (.and_mhl) := ⟨_, _, rfl, rfl⟩
theorem and_a : Statement (.and_a) := ⟨_, _, rfl, rfl⟩
theorem xor_b : Statement (.xor_b) := ⟨_, _, rfl, rfl⟩
theorem xor_c : Statement (.xor_c) := ⟨_, _, rfl, rfl⟩
theorem xor_d : Statement (.xor_d) := ⟨_, _, rfl, rfl⟩
theorem xor_e : Statement (.xor_e) := ⟨_, _, rfl, rfl⟩
theorem xor_h : Statement (.xor_h) := ⟨_, _, rfl, rfl⟩
theorem xor_l : Statement (.xor_l) := ⟨_, _, rfl, rfl⟩
theorem xor_mhl : Statement (.xor_mhl) := ⟨_, _, rfl, rfl⟩
theorem xor_a : Statement (.xor_a) := ⟨_, _, rfl, rfl⟩
theorem or_b : Statement (.or_b) := ⟨_, _, rfl, rfl⟩
theorem or_c : Statement (.or_c) := ⟨_, _, rfl, rfl⟩
theorem or_d : Statement (.or_d) := ⟨_, _, rfl, rfl⟩
theorem or_e : Statement (.or_e) := ⟨_, _, rfl, rfl⟩
theorem or_h : Statement (.or_h) := ⟨_, _, rfl, rfl⟩
theorem or_l : Statement (.or_l) := ⟨_, _, rfl, rfl⟩
theorem or_mhl : Statement (.or_mhl) := ⟨_, _, rfl, rfl⟩
theorem or_a : Statement (.or_a) := ⟨_, _, rfl, rfl⟩
theorem cp_b : Statement (.cp_b) := ⟨_, _, rfl, rfl⟩
theorem cp_c : Statement (.cp_c) := ⟨_, _, rfl, rfl⟩
theorem cp_d : Statement (.cp_d) := ⟨_, _, rfl, rfl⟩
theorem cp_e : Statement (.cp_e) := ⟨_, _, rfl, rfl⟩
theorem cp_h : Statement (.cp_h) := ⟨_, _, rfl, rfl⟩
theorem cp_l : Statement (.cp_l) := ⟨_, _, rfl, rfl⟩
theorem cp_mhl : Statement (.cp_mhl) := ⟨_, _, rfl, rfl⟩
theorem cp_a : Statement (.cp_a) := ⟨_, _, rfl, rfl⟩
theorem ret_nz : Statement (.ret_nz) := ⟨_, _, rfl, rfl⟩
theorem pop_bc : Statement (.pop_bc) := ⟨_, _, rfl, rfl⟩
theorem push_bc : Statement (.push_bc) := ⟨_, _, rfl, rfl⟩
theorem rst_00 : Statement (.rst_00) := ⟨_, _, rfl, rfl⟩
theorem ret_z : Statement (.ret_z) := ⟨_, _, rfl, rfl⟩
theorem ret : Statement (.ret) := ⟨_, _, rfl, rfl⟩
theorem rst_08 : Statement (.rst_08) := ⟨_, _, rfl, rfl⟩
theorem ret_nc : Statement (.ret_nc) := ⟨_, _, rfl, rfl⟩
theorem pop_de : Statement (.pop_de) := ⟨_, _, rfl, rfl⟩
theorem illegal_d3 : Statement (.illegal_d3) := ⟨_, _, rfl, rfl⟩
theorem push_de : Statement (.push_de) := ⟨_, _, rfl, rfl⟩
theorem rst_10 : Statement (.rst_10) := ⟨_, _, rfl, rfl⟩
theorem ret_c : Statement (.ret_c) := ⟨_, _, rfl, rfl⟩
theorem reti : Statement (.reti) := ⟨_, _, rfl, rfl⟩
theorem illegal_db : Statement (.illegal_db) := ⟨_, _, rfl, rfl⟩
theorem illegal_dd : Statement (.illegal_dd) := ⟨_, _, rfl, rfl⟩
theorem rst_18 : Statement (.rst_18) := ⟨_, _, rfl, rfl⟩
theorem pop_hl : Statement (.pop_hl) := ⟨_, _, rfl, rfl⟩
theorem ldh_mc_a : Statement (.ldh_mc_a) := ⟨_, _, rfl, rfl⟩
theorem illegal_e3 : Statement (.illegal_e3) := ⟨_, _, rfl, rfl⟩
theorem illegal_e4 : Statement (.illegal_e4) := ⟨_, _, rfl, rfl⟩
theorem push_hl : Statement (.push_hl) := ⟨_, _, rfl, rfl⟩
theorem rst_20 : Statement (.rst_20) := ⟨_, _, rfl, rfl⟩
theorem jp_hl : Statement (.jp_hl) := ⟨_, _, rfl, rfl⟩
theorem illegal_eb : Statement (.illegal_eb) := ⟨_, _, rfl, rfl⟩
theorem illegal_ec : Statement (.illegal_ec) := ⟨_, _, rfl, rfl⟩
theorem illegal_ed : Statement (.illegal_ed) := ⟨_, _, rfl, rfl⟩
theorem rst_28 : Statement (.rst_28) := ⟨_, _, rfl, rfl⟩
theorem pop_af : Statement (.pop_af) := ⟨_, _, rfl, rfl⟩
theorem ldh_a_mc : Statement (.ldh_a_mc) := ⟨_, _, rfl, rfl⟩
theorem di : Statement (.di) := ⟨_, _, rfl, rfl⟩
theorem illegal_f4 : Statement (.illegal_f4) := ⟨_, _, rfl, rfl⟩
theorem push_af : Statement (.push_af) := ⟨_, _, rfl, rfl⟩
theorem rst_30 : Statement (.rst_30) := ⟨_, _, rfl, rfl⟩
theorem ld_sp_hl : Statement (.ld_sp_hl) := ⟨_, _, rfl, rfl⟩
theorem ei : Statement (.ei) := ⟨_, _, rfl, rfl⟩
theorem illegal_fc : Statement (.illegal_fc) := ⟨_, _, rfl, rfl⟩
theorem illegal_fd : Statement (.illegal_fd) := ⟨_, _, rfl, rfl⟩
theorem rst_38 : Statement (.rst_38) := ⟨_, _, rfl, rfl⟩
theorem rlc_b : Statement (.rlc_b) := ⟨_, _, rfl, rfl⟩
theorem rlc_c : Statement (.rlc_c) := ⟨_, _, rfl, rfl⟩
theorem rlc_d : Statement (.rlc_d) := ⟨_, _, rfl, rfl⟩
theorem rlc_e : Statement (.rlc_e) := ⟨_, _, rfl, rfl⟩
theorem rlc_h : Statement (.rlc_h) := ⟨_, _, rfl, rfl⟩
theorem rlc_l : Statement (.rlc_l) := ⟨_, _, rfl, rfl⟩
theorem rlc_mhl : Statement (.rlc_mhl) := ⟨_, _, rfl, rfl⟩
theorem rlc_a : Statement (.rlc_a) := ⟨_, _, rfl, rfl⟩
theorem rrc_b : Statement (.rrc_b) := ⟨_, _, rfl, rfl⟩
theorem rrc_c : Statement (.rrc_c) := ⟨_, _, rfl, rfl⟩
theorem rrc_d : Statement (.rrc_d) := ⟨_, _, rfl, rfl⟩
theorem rrc_e : Statement (.rrc_e) := ⟨_, _, rfl, rfl⟩
theorem rrc_h : Statement (.rrc_h) := ⟨_, _, rfl, rfl⟩
theorem rrc_l : Statement (.rrc_l) := ⟨_, _, rfl, rfl⟩
theorem rrc_mhl : Statement (.rrc_mhl) := ⟨_, _, rfl, rfl⟩
theorem rrc_a : Statement (.rrc_a) := ⟨_, _, rfl, rfl⟩
theorem rl_b : Statement (.rl_b) := ⟨_, _, rfl, rfl⟩
theorem rl_c : Statement (.rl_c) := ⟨_, _, rfl, rfl⟩
theorem rl_d : Statement (.rl_d) := ⟨_, _, rfl, rfl⟩
theorem rl_e : Statement (.rl_e) := ⟨_, _, rfl, rfl⟩
theorem rl_h : Statement (.rl_h) := ⟨_, _, rfl, rfl⟩
theorem rl_l : Statement (.rl_l) := ⟨_, _, rfl, rfl⟩
theorem rl_mhl : Statement (.rl_mhl) := ⟨_, _, rfl, rfl⟩
theorem rl_a : Statement (.rl_a) := ⟨_, _, rfl, rfl⟩
theorem rr_b : Statement (.rr_b) := ⟨_, _, rfl, rfl⟩
theorem rr_c : Statement (.rr_c) := ⟨_, _, rfl, rfl⟩
theorem rr_d : Statement (.rr_d) := ⟨_, _, rfl, rfl⟩
theorem rr_e : Statement (.rr_e) := ⟨_, _, rfl, rfl⟩
theorem rr_h : Statement (.rr_h) := ⟨_, _, rfl, rfl⟩
theorem rr_l : Statement (.rr_l) := ⟨_, _, rfl, rfl⟩
theorem rr_mhl : Statement (.rr_mhl) := ⟨_, _, rfl, rfl⟩
theorem rr_a : Statement (.rr_a) := ⟨_, _, rfl, rfl⟩
theorem sla_b : Statement (.sla_b) := ⟨_, _, rfl, rfl⟩
theorem sla_c : Statement (.sla_c) := ⟨_, _, rfl, rfl⟩
theorem sla_d : Statement (.sla_d) := ⟨_, _, rfl, rfl⟩
theorem sla_e : Statement (.sla_e) := ⟨_, _, rfl, rfl⟩
theorem sla_h : Statement (.sla_h) := ⟨_, _, rfl, rfl⟩
theorem sla_l : Statement (.sla_l) := ⟨_, _, rfl, rfl⟩
theorem sla_mhl : Statement (.sla_mhl) := ⟨_, _, rfl, rfl⟩
theorem sla_a : Statement (.sla_a) := ⟨_, _, rfl, rfl⟩
theorem sra_b : Statement (.sra_b) := ⟨_, _, rfl, rfl⟩
theorem sra_c : Statement (.sra_c) := ⟨_, _, rfl, rfl⟩
theorem sra_d : Statement (.sra_d) := ⟨_, _, rfl, rfl⟩
theorem sra_e : Statement (.sra_e) := ⟨_, _, rfl, rfl⟩
theorem sra_h : Statement (.sra_h) := ⟨_, _, rfl, rfl⟩
theorem sra_l : Statement (.sra_l) := ⟨_, _, rfl, rfl⟩
theorem sra_mhl : Statement (.sra_mhl) := ⟨_, _, rfl, rfl⟩
theorem sra_a : Statement (.sra_a) := ⟨_, _, rfl, rfl⟩
theorem swap_b : Statement (.swap_b) := ⟨_, _, rfl, rfl⟩
theorem swap_c : Statement (.swap_c) := ⟨_, _, rfl, rfl⟩
theorem swap_d : Statement (.swap_d) := ⟨_, _, rfl, rfl⟩
theorem swap_e : Statement (.swap_e) := ⟨_, _, rfl, rfl⟩
theorem swap_h : Statement (.swap_h) := ⟨_, _, rfl, rfl⟩
theorem swap_l : Statement (.swap_l) := ⟨_, _, rfl, rfl⟩
theorem swap_mhl : Statement (.swap_mhl) := ⟨_, _, rfl, rfl⟩
theorem swap_a : Statement (.swap_a) := ⟨_, _, rfl, rfl⟩
theorem srl_b : Statement (.srl_b) := ⟨_, _, rfl, rfl⟩
theorem srl_c : Statement (.srl_c) := ⟨_, _, rfl, rfl⟩
theorem srl_d : Statement (.srl_d) := ⟨_, _, rfl, rfl⟩
theorem srl_e : Statement (.srl_e) := ⟨_, _, rfl, rfl⟩
theorem srl_h : Statement (.srl_h) := ⟨_, _, rfl, rfl⟩
theorem srl_l : Statement (.srl_l) := ⟨_, _, rfl, rfl⟩
theorem srl_mhl : Statement (.srl_mhl) := ⟨_, _, rfl, rfl⟩
theorem srl_a : Statement (.srl_a) := ⟨_, _, rfl, rfl⟩
theorem bit_0_b : Statement (.bit_0_b) := ⟨_, _, rfl, rfl⟩
theorem bit_0_c : Statement (.bit_0_c) := ⟨_, _, rfl, rfl⟩
theorem bit_0_d : Statement (.bit_0_d) := ⟨_, _, rfl, rfl⟩
theorem bit_0_e : Statement (.bit_0_e) := ⟨_, _, rfl, rfl⟩
theorem bit_0_h : Statement (.bit_0_h) := ⟨_, _, rfl, rfl⟩
theorem bit_0_l : Statement (.bit_0_l) := ⟨_, _, rfl, rfl⟩
theorem bit_0_mhl : Statement (.bit_0_mhl) := ⟨_, _, rfl, rfl⟩
theorem bit_0_a : Statement (.bit_0_a) := ⟨_, _, rfl, rfl⟩
theorem bit_1_b : Statement (.bit_1_b) := ⟨_, _, rfl, rfl⟩
theorem bit_1_c : Statement (.bit_1_c) := ⟨_, _, rfl, rfl⟩
theorem bit_1_d : Statement (.bit_1_d) := ⟨_, _, rfl, rfl⟩
theorem bit_1_e : Statement (.bit_1_e) := ⟨_, _, rfl, rfl⟩
theorem bit_1_h : Statement (.bit_1_h) := ⟨_, _, rfl, rfl⟩
theorem bit_1_l : Statement (.bit_1_l) := ⟨_, _, rfl, rfl⟩
theorem bit_1_mhl : Statement (.bit_1_mhl) := ⟨_, _, rfl, rfl⟩
theorem bit_1_a : Statement (.bit_1_a) := ⟨_, _, rfl, rfl⟩
theorem bit_2_b : Statement (.bit_2_b) := ⟨_, _, rfl, rfl⟩
theorem bit_2_c : Statement (.bit_2_c) := ⟨_, _, rfl, rfl⟩
theorem bit_2_d : Statement (.bit_2_d) := ⟨_, _, rfl, rfl⟩
theorem bit_2_e : Statement (.bit_2_e) := ⟨_, _, rfl, rfl⟩
theorem bit_2_h : Statement (.bit_2_h) := ⟨_, _, rfl, rfl⟩
theorem bit_2_l : Statement (.bit_2_l) := ⟨_, _, rfl, rfl⟩
theorem bit_2_mhl : Statement (.bit_2_mhl) := ⟨_, _, rfl, rfl⟩
theorem bit_2_a : Statement (.bit_2_a) := ⟨_, _, rfl, rfl⟩
theorem bit_3_b : Statement (.bit_3_b) := ⟨_, _, rfl, rfl⟩
theorem bit_3_c : Statement (.bit_3_c) := ⟨_, _, rfl, rfl⟩
theorem bit_3_d : Statement (.bit_3_d) := ⟨_, _, rfl, rfl⟩
theorem bit_3_e : Statement (.bit_3_e) := ⟨_, _, rfl, rfl⟩
theorem bit_3_h : Statement (.bit_3_h) := ⟨_, _, rfl, rfl⟩
theorem bit_3_l : Statement (.bit_3_l) := ⟨_, _, rfl, rfl⟩
theorem bit_3_mhl : Statement (.bit_3_mhl) := ⟨_, _, rfl, rfl⟩
theorem bit_3_a : Statement (.bit_3_a) := ⟨_, _, rfl, rfl⟩
theorem bit_4_b : Statement (.bit_4_b) := ⟨_, _, rfl, rfl⟩
theorem bit_4_c : Statement (.bit_4_c) := ⟨_, _, rfl, rfl⟩
theorem bit_4_d : Statement (.bit_4_d) := ⟨_, _, rfl, rfl⟩
theorem bit_4_e : Statement (.bit_4_e) := ⟨_, _, rfl, rfl⟩
theorem bit_4_h : Statement (.bit_4_h) := ⟨_, _, rfl, rfl⟩
theorem bit_4_l : Statement (.bit_4_l) := ⟨_, _, rfl, rfl⟩
theorem bit_4_mhl : Statement (.bit_4_mhl) := ⟨_, _, rfl, rfl⟩
theorem bit_4_a : Statement (.bit_4_a) := ⟨_, _, rfl, rfl⟩
theorem bit_5_b : Statement (.bit_5_b) := ⟨_, _, rfl, rfl⟩
theorem bit_5_c : Statement (.bit_5_c) := ⟨_, _, rfl, rfl⟩
theorem bit_5_d : Statement (.bit_5_d) := ⟨_, _, rfl, rfl⟩
theorem bit_5_e : Statement (.bit_5_e) := ⟨_, _, rfl, rfl⟩
theorem bit_5_h : Statement (.bit_5_h) := ⟨_, _, rfl, rfl⟩
theorem bit_5_l : Statement (.bit_5_l) := ⟨_, _, rfl, rfl⟩
theorem bit_5_mhl : Statement (.bit_5_mhl) := ⟨_, _, rfl, rfl⟩
theorem bit_5_a : Statement (.bit_5_a) := ⟨_, _, rfl, rfl⟩
theorem bit_6_b : Statement (.bit_6_b) := ⟨_, _, rfl, rfl⟩
theorem bit_6_c : Statement (.bit_6_c) := ⟨_, _, rfl, rfl⟩
theorem bit_6_d : Statement (.bit_6_d) := ⟨_, _, rfl, rfl⟩
theorem bit_6_e : Statement (.bit_6_e) := ⟨_, _, rfl, rfl⟩
theorem bit_6_h : Statement (.bit_6_h) := ⟨_, _, rfl, rfl⟩
theorem bit_6_l : Statement (.bit_6_l) := ⟨_, _, rfl, rfl⟩
theorem bit_6_mhl : Statement (.bit_6_mhl) := ⟨_, _, rfl, rfl⟩
theorem bit_6_a : Statement (.bit_6_a) := ⟨_, _, rfl, rfl⟩
theorem bit_7_b : Statement (.bit_7_b) := ⟨_, _, rfl, rfl⟩
theorem bit_7_c : Statement (.bit_7_c) := ⟨_, _, rfl, rfl⟩
theorem bit_7_d : Statement (.bit_7_d) := ⟨_, _, rfl, rfl⟩
theorem bit_7_e : Statement (.bit_7_e) := ⟨_, _, rfl, rfl⟩
theorem bit_7_h : Statement (.bit_7_h) := ⟨_, _, rfl, rfl⟩
theorem bit_7_l : Statement (.bit_7_l) := ⟨_, _, rfl, rfl⟩
theorem bit_7_mhl : Statement (.bit_7_mhl) := ⟨_, _, rfl, rfl⟩
theorem bit_7_a : Statement (.bit_7_a) := ⟨_, _, rfl, rfl⟩
theorem res_0_b : Statement (.res_0_b) := ⟨_, _, rfl, rfl⟩
theorem res_0_c : Statement (.res_0_c) := ⟨_, _, rfl, rfl⟩
theorem res_0_d : Statement (.res_0_d) := ⟨_, _, rfl, rfl⟩
theorem res_0_e : Statement (.res_0_e) := ⟨_, _, rfl, rfl⟩
theorem res_0_h : Statement (.res_0_h) := ⟨_, _, rfl, rfl⟩
theorem res_0_l : Statement (.res_0_l) := ⟨_, _, rfl, rfl⟩
theorem res_0_mhl : Statement (.res_0_mhl) := ⟨_, _, rfl, rfl⟩
theorem res_0_a : Statement (.res_0_a) := ⟨_, _, rfl, rfl⟩
theorem res_1_b : Statement (.res_1_b) := ⟨_, _, rfl, rfl⟩
theorem res_1_c : Statement (.res_1_c) := ⟨_, _, rfl, rfl⟩
theorem res_1_d : Statement (.res_1_d) := ⟨_, _, rfl, rfl⟩
theorem res_1_e : Statement (.res_1_e) := ⟨_, _, rfl, rfl⟩
theorem res_1_h : Statement (.res_1_h) := ⟨_, _, rfl, rfl⟩
theorem res_1_l : Statement (.res_1_l) := ⟨_, _, rfl, rfl⟩
theorem res_1_mhl : Statement (.res_1_mhl) := ⟨_, _, rfl, rfl⟩
theorem res_1_a : Statement (.res_1_a) := ⟨_, _, rfl, rfl⟩
theorem res_2_b : Statement (.res_2_b) := ⟨_, _, rfl, rfl⟩
theorem res_2_c : Statement (.res_2_c) := ⟨_, _, rfl, rfl⟩
theorem res_2_d : Statement (.res_2_d) := ⟨_, _, rfl, rfl⟩
theorem res_2_e : Statement (.res_2_e) := ⟨_, _, rfl, rfl⟩
theorem res_2_h : Statement (.res_2_h) := ⟨_, _, rfl, rfl⟩
theorem res_2_l : Statement (.res_2_l) := ⟨_, _, rfl, rfl⟩
theorem res_2_mhl : Statement (.res_2_mhl) := ⟨_, _, rfl, rfl⟩
theorem res_2_a : Statement (.res_2_a) := ⟨_, _, rfl, rfl⟩
theorem res_3_b : Statement (.res_3_b) := ⟨_, _, rfl, rfl⟩
theorem res_3_c : Statement (.res_3_c) := ⟨_, _, rfl, rfl⟩
theorem res_3_d : Statement (.res_3_d) := ⟨_, _, rfl, rfl⟩
theorem res_3_e : Statement (.res_3_e) := ⟨_, _, rfl, rfl⟩
theorem res_3_h : Statement (.res_3_h) := ⟨_, _, rfl, rfl⟩
theorem res_3_l : Statement (.res_3_l) := ⟨_, _, rfl, rfl⟩
theorem res_3_mhl : Statement (.res_3_mhl) := ⟨_, _, rfl, rfl⟩
theorem res_3_a : Statement (.res_3_a) := ⟨_, _, rfl, rfl⟩
theorem res_4_b : Statement (.res_4_b) := ⟨_, _, rfl, rfl⟩
theorem res_4_c : Statement (.res_4_c) := ⟨_, _, rfl, rfl⟩
theorem res_4_d : Statement (.res_4_d) := ⟨_, _, rfl, rfl⟩
theorem res_4_e : Statement (.res_4_e) := ⟨_, _, rfl, rfl⟩
theorem res_4_h : Statement (.res_4_h) := ⟨_, _, rfl, rfl⟩
theorem res_4_l : Statement (.res_4_l) := ⟨_, _, rfl, rfl⟩
theorem res_4_mhl : Statement (.res_4_mhl) := ⟨_, _, rfl, rfl⟩
theorem res_4_a : Statement (.res_4_a) := ⟨_, _, rfl, rfl⟩
theorem res_5_b : Statement (.res_5_b) := ⟨_, _, rfl, rfl⟩
theorem res_5_c : Statement (.res_5_c) := ⟨_, _, rfl, rfl⟩
theorem res_5_d : Statement (.res_5_d) := ⟨_, _, rfl, rfl⟩
theorem res_5_e : Statement (.res_5_e) := ⟨_, _, rfl, rfl⟩
theorem res_5_h : Statement (.res_5_h) := ⟨_, _, rfl, rfl⟩
theorem res_5_l : Statement (.res_5_l) := ⟨_, _, rfl, rfl⟩
theorem res_5_mhl : Statement (.res_5_mhl) := ⟨_, _, rfl, rfl⟩
theorem res_5_a : Statement (.res_5_a) := ⟨_, _, rfl, rfl⟩
theorem res_6_b : Statement (.res_6_b) := ⟨_, _, rfl, rfl⟩
theorem res_6_c : Statement (.res_6_c) := ⟨_, _, rfl, rfl⟩
theorem res_6_d : Statement (.res_6_d) := ⟨_, _, rfl, rfl⟩
theorem res_6_e : Statement (.res_6_e) := ⟨_, _, rfl, rfl⟩
theorem res_6_h : Statement (.res_6_h) := ⟨_, _, rfl, rfl⟩
theorem res_6_l : Statement (.res_6_l) := ⟨_, _, rfl, rfl⟩
theorem res_6_mhl : Statement (.res_6_mhl) := ⟨_, _, rfl, rfl⟩
theorem res_6_a : Statement (.res_6_a) := ⟨_, _, rfl, rfl⟩
theorem res_7_b : Statement (.res_7_b) := ⟨_, _, rfl, rfl⟩
theorem res_7_c : Statement (.res_7_c) := ⟨_, _, rfl, rfl⟩
theorem res_7_d : Statement (.res_7_d) := ⟨_, _, rfl, rfl⟩
theorem res_7_e : Statement (.res_7_e) := ⟨_, _, rfl, rfl⟩
theorem res_7_h : Statement (.res_7_h) := ⟨_, _, rfl, rfl⟩
theorem res_7_l : Statement (.res_7_l) := ⟨_, _, rfl, rfl⟩
theorem res_7_mhl : Statement (.res_7_mhl) := ⟨_, _, rfl, rfl⟩
theorem res_7_a : Statement (.res_7_a) := ⟨_, _, rfl, rfl⟩
theorem set_0_b : Statement (.set_0_b) := ⟨_, _, rfl, rfl⟩
theorem set_0_c : Statement (.set_0_c) := ⟨_, _, rfl, rfl⟩
theorem set_0_d : Statement (.set_0_d) := ⟨_, _, rfl, rfl⟩
theorem set_0_e : Statement (.set_0_e) := ⟨_, _, rfl, rfl⟩
theorem set_0_h : Statement (.set_0_h) := ⟨_, _, rfl, rfl⟩
theorem set_0_l : Statement (.set_0_l) := ⟨_, _, rfl, rfl⟩
theorem set_0_mhl : Statement (.set_0_mhl) := ⟨_, _, rfl, rfl⟩
theorem set_0_a : Statement (.set_0_a) := ⟨_, _, rfl, rfl⟩
theorem set_1_b : Statement (.set_1_b) := ⟨_, _, rfl, rfl⟩
theorem set_1_c : Statement (.set_1_c) := ⟨_, _, rfl, rfl⟩
theorem set_1_d : Statement (.set_1_d) := ⟨_, _, rfl, rfl⟩
theorem set_1_e : Statement (.set_1_e) := ⟨_, _, rfl, rfl⟩
theorem set_1_h : Statement (.set_1_h) := ⟨_, _, rfl, rfl⟩
theorem set_1_l : Statement (.set_1_l) := ⟨_, _, rfl, rfl⟩
theorem set_1_mhl : Statement (.set_1_mhl) := ⟨_, _, rfl, rfl⟩
theorem set_1_a : Statement (.set_1_a) := ⟨_, _, rfl, rfl⟩
theorem set_2_b : Statement (.set_2_b) := ⟨_, _, rfl, rfl⟩
theorem set_2_c : Statement (.set_2_c) := ⟨_, _, rfl, rfl⟩
theorem set_2_d : Statement (.set_2_d) := ⟨_, _, rfl, rfl⟩
theorem set_2_e : Statement (.set_2_e) := ⟨_, _, rfl, rfl⟩
theorem set_2_h : Statement (.set_2_h) := ⟨_, _, rfl, rfl⟩
theorem set_2_l : Statement (.set_2_l) := ⟨_, _, rfl, rfl⟩
theorem set_2_mhl : Statement (.set_2_mhl) := ⟨_, _, rfl, rfl⟩
theorem set_2_a : Statement (.set_2_a) := ⟨_, _, rfl, rfl⟩
theorem set_3_b : Statement (.set_3_b) := ⟨_, _, rfl, rfl⟩
theorem set_3_c : Statement (.set_3_c) := ⟨_, _, rfl, rfl⟩
theorem set_3_d : Statement (.set_3_d) := ⟨_, _, rfl, rfl⟩
theorem set_3_e : Statement (.set_3_e) := ⟨_, _, rfl, rfl⟩
theorem set_3_h : Statement (.set_3_h) := ⟨_, _, rfl, rfl⟩
theorem set_3_l : Statement (.set_3_l) := ⟨_, _, rfl, rfl⟩
theorem set_3_mhl : Statement (.set_3_mhl) := ⟨_, _, rfl, rfl⟩
theorem set_3_a : Statement (.set_3_a) := ⟨_, _, rfl, rfl⟩
theorem set_4_b : Statement (.set_4_b) := ⟨_, _, rfl, rfl⟩
theorem set_4_c : Statement (.set_4_c) := ⟨_, _, rfl, rfl⟩
theorem set_4_d : Statement (.set_4_d) := ⟨_, _, rfl, rfl⟩
theorem set_4_e : Statement (.set_4_e) := ⟨_, _, rfl, rfl⟩
theorem set_4_h : Statement (.set_4_h) := ⟨_, _, rfl, rfl⟩
theorem set_4_l : Statement (.set_4_l) := ⟨_, _, rfl, rfl⟩
theorem set_4_mhl : Statement (.set_4_mhl) := ⟨_, _, rfl, rfl⟩
theorem set_4_a : Statement (.set_4_a) := ⟨_, _, rfl, rfl⟩
theorem set_5_b : Statement (.set_5_b) := ⟨_, _, rfl, rfl⟩
theorem set_5_c : Statement (.set_5_c) := ⟨_, _, rfl, rfl⟩
theorem set_5_d : Statement (.set_5_d) := ⟨_, _, rfl, rfl⟩
theorem set_5_e : Statement (.set_5_e) := ⟨_, _, rfl, rfl⟩
theorem set_5_h : Statement (.set_5_h) := ⟨_, _, rfl, rfl⟩
theorem set_5_l : Statement (.set_5_l) := ⟨_, _, rfl, rfl⟩
theorem set_5_mhl : Statement (.set_5_mhl) := ⟨_, _, rfl, rfl⟩
theorem set_5_a : Statement (.set_5_a) := ⟨_, _, rfl, rfl⟩
theorem set_6_b : Statement (.set_6_b) := ⟨_, _, rfl, rfl⟩
theorem set_6_c : Statement (.set_6_c) := ⟨_, _, rfl, rfl⟩
theorem set_6_d : Statement (.set_6_d) := ⟨_, _, rfl, rfl⟩
theorem set_6_e : Statement (.set_6_e) := ⟨_, _, rfl, rfl⟩
theorem set_6_h : Statement (.set_6_h) := ⟨_, _, rfl, rfl⟩
theorem set_6_l : Statement (.set_6_l) := ⟨_, _, rfl, rfl⟩
theorem set_6_mhl : Statement (.set_6_mhl) := ⟨_, _, rfl, rfl⟩
theorem set_6_a : Statement (.set_6_a) := ⟨_, _, rfl, rfl⟩
theorem set_7_b : Statement (.set_7_b) := ⟨_, _, rfl, rfl⟩
theorem set_7_c : Statement (.set_7_c) := ⟨_, _, rfl, rfl⟩
theorem set_7_d : Statement (.set_7_d) := ⟨_, _, rfl, rfl⟩
theorem set_7_e : Statement (.set_7_e) := ⟨_, _, rfl, rfl⟩
theorem set_7_h : Statement (.set_7_h) := ⟨_, _, rfl, rfl⟩
theorem set_7_l : Statement (.set_7_l) := ⟨_, _, rfl, rfl⟩
theorem set_7_mhl : Statement (.set_7_mhl) := ⟨_, _, rfl, rfl⟩
theorem set_7_a : Statement (.set_7_a) := ⟨_, _, rfl, rfl⟩

end Sys2Proof.Laws.EncodingLength
end

