-- ==== Sys2Proof/Tests/Slice0.lean ====
section
/-! SUPPORT. Small tests. Expected words come from the encodings of 30_encoding.md and of the instruction rules; expected
results of steps from spec/95_test_vectors.md; the last section shows, for each statement with hypotheses, concrete
states and operands that meet them. -/

namespace Sys2Proof.Tests

open Sys2Proof.Machine

/-! ## Helpers -/

/-- The conventions of 95_test_vectors.md: no bank controller, overlay off, `SP = 0xDFF0`, devices at rest. -/
def base : State :=
  { State.reset with bootEnabled := false, regs.sp := 0xDFF0, env := ⟨[], List.replicate 64 false, 0⟩ }

/-- Put a byte at a bus address. -/
def poke (a : Word) (v : Byte) (s : State) : State := placeByte (locate s.bootEnabled a) v s

/-- Instruction bytes at `a`, and `PC` there. -/
def placed (a : Word) (bytes : List Byte) : State := setPc a (placeBytes bytes a base)

/-- The state a step ends in. -/
def after (s : State) : State :=
  match step s with
  | .next t => t
  | .fault _ => s
  | .refused _ => s

/-- The step ends in a next state. -/
def goesOn (s : State) : Bool :=
  match step s with
  | .next _ => true
  | .fault _ => false
  | .refused _ => false

theorem step_after {s : State} (h : goesOn s = true) : step s = .next (after s) := by
  unfold goesOn at h
  unfold after
  cases hs : step s <;> simp_all

/-- The bytes are exactly the words of `i`. -/
def decodesTo (bytes : List Byte) (i : Instr) : Bool := decide (decode bytes = .ok (i, []))

/-- Each byte list is the words of its instruction. -/
def wordsOk (l : List (List Byte × Instr)) : Bool := l.all fun p => decodesTo p.1 p.2

def allReg8 : List Reg8 := [.b, .c, .d, .e, .h, .l, .a]
def allReg16 : List Reg16 := [.bc, .de, .hl, .sp]
def allStk : List Reg16Stk := [.bc, .de, .hl, .af]
def allCond : List Cond := [.nz, .z, .nc, .c]
def allAlu : List AluOp := [.add, .adc, .sub, .sbc, .and, .xor, .or, .cp]
def allShift : List ShiftOp := [.rlc, .rrc, .rl, .rr, .sla, .sra, .swap, .srl]
def allBits : List BitNo := [.b0, .b1, .b2, .b3, .b4, .b5, .b6, .b7]

/-! ## Well-formedness -/

theorem test_prefix_is_no_instruction : WellFormed (.prefixCb 0x37) = false := by decide
theorem test_cb_page_is_an_instruction : WellFormed .swap_a = true := by decide

/-! ## Words written out from the spec's encodings -/

theorem test_words_load8 : wordsOk
    [([0b01111000], .ld_a_b), ([0b01000110], .ld_b_mhl), ([0b01110111], .ld_mhl_a), ([0b00111110, 0xFF], .ld_a_n 0xFF),
     ([0b00110110, 0x7E], .ld_mhl_n 0x7E), ([0b00001010], .ld_a_mbc), ([0b00011010], .ld_a_mde), ([0b00000010], .ld_mbc_a),
     ([0b00010010], .ld_mde_a), ([0b11111010, 0x00, 0xC1], .ld_a_mnn 0xC100), ([0b11101010, 0x00, 0x20], .ld_mnn_a 0x2000),
     ([0b11110000, 0x0F], .ldh_a_mn 0x0F), ([0b11100000, 0xFF], .ldh_mn_a 0xFF), ([0b11110010], .ldh_a_mc),
     ([0b11100010], .ldh_mc_a), ([0b00101010], .ld_a_mhli), ([0b00111010], .ld_a_mhld), ([0b00100010], .ld_mhli_a),
     ([0b00110010], .ld_mhld_a)] = true := by decide
theorem test_words_load8_fields :
    (allReg8.all fun x => decodesTo [0b00#2 ++ x.code ++ 0b110#3, 0x5A] (ldRImm x 0x5A) &&
      decodesTo [0b01#2 ++ x.code ++ 0b110#3] (ldRHl x) && decodesTo [0b01110#5 ++ x.code] (ldHlR x) &&
      allReg8.all fun y => decodesTo [0b01#2 ++ x.code ++ y.code] (ldRR x y)) = true := by decide
theorem test_words_load16 : wordsOk
    [([0b00100001, 0x34, 0x12], .ld_hl_nn 0x1234), ([0b00001000, 0x00, 0xC1], .ld_mnn_sp 0xC100), ([0b11111001], .ld_sp_hl),
     ([0b11111000, 0x08], .ld_hl_sp_e 0x08), ([0b11000101], .push_bc), ([0b11110001], .pop_af)] = true := by decide
theorem test_words_load16_fields :
    (allReg16.all fun p => decodesTo [0b00#2 ++ p.code ++ 0b0001#4, 0x34, 0x12] (ldPair p 0x1234)) = true ∧
    (allStk.all fun p => decodesTo [0b11#2 ++ p.code ++ 0b0101#4] (pushOf p) &&
      decodesTo [0b11#2 ++ p.code ++ 0b0001#4] (popOf p)) = true := by decide
theorem test_words_alu8 : wordsOk
    [([0b10000000], .add_a_b), ([0b10001110], .adc_a_mhl), ([0b11010110, 0x0F], .sub_n 0x0F), ([0b10011100], .sbc_a_h),
     ([0b10100101], .and_l), ([0b11101110, 0xFF], .xor_n 0xFF), ([0b10110111], .or_a), ([0b10111110], .cp_mhl),
     ([0b00110100], .inc_mhl), ([0b00110101], .dec_mhl), ([0b00100111], .daa), ([0b00101111], .cpl), ([0b00110111], .scf),
     ([0b00111111], .ccf)] = true := by decide
theorem test_words_alu8_fields :
    (allAlu.all fun k => decodesTo [0b10#2 ++ k.code ++ 0b110#3] (aluInstr k .mem) &&
      decodesTo [0b11#2 ++ k.code ++ 0b110#3, 0x5A] (aluInstr k (.imm 0x5A)) &&
      allReg8.all fun r => decodesTo [0b10#2 ++ k.code ++ r.code] (aluInstr k (.reg r))) = true ∧
    (allReg8.all fun r => decodesTo [0b00#2 ++ r.code ++ 0b100#3] (incOf r) &&
      decodesTo [0b00#2 ++ r.code ++ 0b101#3] (decOf r)) = true := by decide
theorem test_words_alu16 : wordsOk
    [([0b00001001], .add_hl_bc), ([0b00110011], .inc_sp), ([0b00001011], .dec_bc), ([0b11101000, 0x02], .add_sp_e 0x02)] =
    true := by decide
theorem test_words_alu16_fields :
    (allReg16.all fun p => decodesTo [0b00#2 ++ p.code ++ 0b1001#4] (addHlOf p) &&
      decodesTo [0b00#2 ++ p.code ++ 0b0011#4] (incPairOf p) && decodesTo [0b00#2 ++ p.code ++ 0b1011#4] (decPairOf p)) =
    true := by decide
theorem test_words_rotate_shift : wordsOk
    [([0b00000111], .rlca), ([0b00001111], .rrca), ([0b00010111], .rla), ([0b00011111], .rra),
     ([0b11001011, 0b00110111], .swap_a), ([0b11001011, 0b00010110], .rl_mhl)] = true := by decide
theorem test_words_rotate_shift_fields :
    (allShift.all fun k => decodesTo [0xCB, 0b00#2 ++ k.code ++ 0b110#3] (shiftHlOf k) &&
      allReg8.all fun r => decodesTo [0xCB, 0b00#2 ++ k.code ++ r.code] (shiftOf k r)) = true := by decide
theorem test_words_bit : wordsOk
    [([0b11001011, 0b01111111], .bit_7_a), ([0b11001011, 0b10011110], .res_3_mhl), ([0b11001011, 0b11001011], .set_1_e)] =
    true := by decide
theorem test_words_bit_fields :
    (allBits.all fun n => decodesTo [0xCB, 0b01#2 ++ n.code ++ 0b110#3] (bitTestHlOf n) &&
      decodesTo [0xCB, 0b10#2 ++ n.code ++ 0b110#3] (bitResHlOf n) &&
      decodesTo [0xCB, 0b11#2 ++ n.code ++ 0b110#3] (bitSetHlOf n) &&
      allReg8.all fun r => decodesTo [0xCB, 0b01#2 ++ n.code ++ r.code] (bitTestOf n r) &&
        decodesTo [0xCB, 0b10#2 ++ n.code ++ r.code] (bitResOf n r) &&
        decodesTo [0xCB, 0b11#2 ++ n.code ++ r.code] (bitSetOf n r)) = true := by decide
theorem test_words_control : wordsOk
    [([0b11000011, 0x50, 0x01], .jp_nn 0x0150), ([0b11001010, 0x00, 0x80], .jp_z_nn 0x8000), ([0b11101001], .jp_hl),
     ([0b00011000, 0xFE], .jr_e 0xFE), ([0b00100000, 0xFC], .jr_nz_e 0xFC), ([0b11001101, 0x10, 0x01], .call_nn 0x0110),
     ([0b11011100, 0x00, 0x30], .call_c_nn 0x3000), ([0b11001001], .ret), ([0b11000000], .ret_nz), ([0b11011001], .reti),
     ([0b11101111], .rst_28)] = true := by decide
theorem test_words_control_fields :
    (allCond.all fun k => decodesTo [0b110#3 ++ k.code ++ 0b010#3, 0x34, 0x12] (jpIfOf k 0x1234) &&
      decodesTo [0b001#3 ++ k.code ++ 0b000#3, 0x80] (jrIfOf k 0x80) &&
      decodesTo [0b110#3 ++ k.code ++ 0b100#3, 0x34, 0x12] (callIfOf k 0x1234) &&
      decodesTo [0b110#3 ++ k.code ++ 0b000#3] (retIfOf k)) = true ∧
    (allBits.all fun n => decodesTo [0b11#2 ++ n.code ++ 0b111#3] (rstOf n)) = true := by decide
theorem test_words_system : wordsOk
    [([0x00], .nop), ([0x76], .halt), ([0x10, 0x00], .stop 0x00), ([0xF3], .di), ([0xFB], .ei)] = true := by decide
theorem test_words_unknown : wordsOk
    [([0xD3], .illegal_d3), ([0xDB], .illegal_db), ([0xDD], .illegal_dd), ([0xE3], .illegal_e3), ([0xE4], .illegal_e4),
     ([0xEB], .illegal_eb), ([0xEC], .illegal_ec), ([0xED], .illegal_ed), ([0xF4], .illegal_f4), ([0xFC], .illegal_fc),
     ([0xFD], .illegal_fd)] = true := by decide
theorem test_decode_refuses_by_name :
    decode [] = .error .noBytes ∧ decode [0xCB] = .error (.truncated 0xCB 2 1) ∧
    decode [0x21, 0x34] = .error (.truncated 0x21 3 2) := by decide
theorem test_table_words :
    decodeTableWord 8 0x76 = some .halt ∧ decodeTableWord 8 0x21 = some (.ld_hl_nn 0) ∧
    decodeTableWord 16 0xCB37 = some .swap_a := by decide
theorem test_fetch_word_runs_first :
    (after (State.reset.withFetchWord 16 0xCBC7)).regs.a = 0x01 ∧ (after (State.reset.withFetchWord 8 0x2F)).regs.a = 0xFF := by
  decide

/-! ## One step each: 95_test_vectors.md section 2, the rule in the name -/

theorem test_ld_a_b_R151 :
    let t := after { placed 0xC000 [0x78] with regs.b := 0x12 }
    (t.regs.a, t.regs.pc, t.clock) = (0x12, 0xC001, 4) := by decide
theorem test_ld_b_mhl_R152 :
    let t := after { poke 0xC100 0x5A (placed 0xC000 [0x46]) with regs.h := 0xC1, regs.l := 0x00 }
    (t.regs.b, t.clock) = (0x5A, 8) := by decide
theorem test_ld_mhl_a_R153 :
    let t := after { placed 0xC000 [0x77] with regs.h := 0xE0, regs.l := 0x10, regs.a := 0x5A }
    (peek 0xC010 t, peek 0xE010 t, t.clock) = (some 0x5A, some 0x5A, 8) := by decide
theorem test_ld_a_n_R154 :
    let t := after (placed 0xC000 [0x3E, 0xFF])
    (t.regs.a, t.regs.pc, t.clock) = (0xFF, 0xC002, 8) := by decide
theorem test_ld_mhl_n_R155 :
    let t := after { placed 0xC000 [0x36, 0x7E] with regs.h := 0xC1, regs.l := 0x00 }
    (peek 0xC100 t, t.clock) = (some 0x7E, 12) := by decide
theorem test_ld_a_mbc_R156 :
    let t := after { poke 0xC123 0x07 (placed 0xC000 [0x0A]) with regs.b := 0xC1, regs.c := 0x23 }
    (t.regs.a, t.clock) = (0x07, 8) := by decide
theorem test_ld_a_mde_R157 :
    let t := after { poke 0xFF80 0xAA (placed 0xC000 [0x1A]) with regs.d := 0xFF, regs.e := 0x80 }
    (t.regs.a, t.clock) = (0xAA, 8) := by decide
theorem test_ld_mbc_a_R158 :
    let t := after { placed 0xC000 [0x02] with regs.b := 0xC1, regs.c := 0x00, regs.a := 0x42 }
    (peek 0xC100 t, t.clock) = (some 0x42, 8) := by decide
theorem test_ld_mde_a_R159 :
    let t := after { placed 0xC000 [0x12] with regs.d := 0x80, regs.e := 0x00, regs.a := 0xFF }
    (peek 0x8000 t, t.clock) = (some 0xFF, 8) := by decide
theorem test_ld_a_mnn_R160 :
    let t := after (poke 0xC100 0x77 (placed 0xC000 [0xFA, 0x00, 0xC1]))
    (t.regs.a, t.clock) = (0x77, 16) := by decide
theorem test_ldh_a_mn_R162 :
    let t := after (placed 0xC000 [0xF0, 0x41])
    (t.regs.a, t.clock) = (0x80, 12) := by decide
theorem test_ldh_mn_a_R163 :
    let t := after { placed 0xC000 [0xE0, 0xFF] with regs.a := 0x04 }
    (t.irq.ie, t.clock) = (0x04, 12) := by decide
theorem test_ldh_a_mc_R164 :
    let t := after { placed 0xC000 [0xF2] with regs.c := 0x44, ppu.ly := 0x23 }
    (t.regs.a, t.clock) = (0x23, 8) := by decide
theorem test_ldh_mc_a_R165 :
    let t := after { placed 0xC000 [0xE2] with regs.c := 0x80, regs.a := 0x11 }
    (peek 0xFF80 t, t.clock) = (some 0x11, 8) := by decide
theorem test_ld_a_mhli_R166 :
    let t := after { poke 0xC100 0x33 (placed 0xC000 [0x2A]) with regs.h := 0xC1, regs.l := 0x00 }
    (t.regs.a, t.hl, t.clock) = (0x33, 0xC101, 8) := by decide
theorem test_ld_a_mhld_R167 :
    let t := after { poke 0xC101 0x44 (placed 0xC000 [0x3A]) with regs.h := 0xC1, regs.l := 0x01 }
    (t.regs.a, t.hl, t.clock) = (0x44, 0xC100, 8) := by decide
theorem test_ld_mhli_a_R168 :
    let t := after { placed 0xC000 [0x22] with regs.h := 0x9F, regs.l := 0xFF, regs.a := 0x01 }
    (peek 0x9FFF t, t.hl, t.clock) = (some 0x01, 0xA000, 8) := by decide
theorem test_ld_mhld_a_R169 :
    let t := after { poke 0xDFFF 0x55 (placed 0xC000 [0x32]) with regs.h := 0xDF, regs.l := 0xFF, regs.a := 0x00 }
    (t.hl, t.clock) = (0xDFFE, 8) := by decide
theorem test_ld_hl_nn_R180 :
    let t := after (placed 0xC000 [0x21, 0x34, 0x12])
    (t.hl, t.regs.h, t.regs.l, t.clock) = (0x1234, 0x12, 0x34, 12) := by decide
theorem test_ld_mnn_sp_R181 :
    let t := after { placed 0xC000 [0x08, 0x00, 0xC1] with regs.sp := 0xFFF8 }
    (peek 0xC100 t, peek 0xC101 t, t.clock) = (some 0xF8, some 0xFF, 20) := by decide
theorem test_ld_sp_hl_R182 :
    let t := after { placed 0xC000 [0xF9] with regs.h := 0xD0, regs.l := 0x00 }
    (t.regs.sp, t.clock) = (0xD000, 8) := by decide
theorem test_ld_hl_sp_e_R183 :
    let t := after { placed 0xC000 [0xF8, 0x08] with regs.sp := 0xFFF8 }
    (t.hl, t.regs.f, t.clock) = (0x0000, 0x30, 12) := by decide
theorem test_push_bc_R184 :
    let t := after { placed 0xC000 [0xC5] with regs.sp := 0x0001, regs.b := 0x12, regs.c := 0x34 }
    (t.regs.sp, t.irq.ie, t.clock) = (0xFFFF, 0x34, 16) := by decide
theorem test_pop_bc_R185 :
    let t := after { placed 0xC000 [0xC1] with regs.sp := 0xFFFF, irq.ie := 0x12 }
    (t.regs.c, t.regs.b, t.regs.sp, t.clock) = (0x12, 0x00, 0x0001, 12) := by decide
theorem test_add_a_b_R196 :
    let t := after { placed 0xC000 [0x80] with regs.a := 0x3A, regs.b := 0xC6 }
    (t.regs.a, t.regs.f, t.clock) = (0x00, 0xB0, 4) := by decide
theorem test_add_a_mhl_R197 :
    let t := after { poke 0xC100 0x12 (placed 0xC000 [0x86]) with regs.a := 0x3C, regs.h := 0xC1, regs.l := 0x00 }
    (t.regs.a, t.regs.f, t.clock) = (0x4E, 0x00, 8) := by decide
theorem test_add_a_n_R198 :
    let t := after { placed 0xC000 [0xC6, 0xFF] with regs.a := 0x3C }
    (t.regs.a, t.regs.f, t.clock) = (0x3B, 0x30, 8) := by decide
theorem test_adc_a_e_R199 :
    let t := after { placed 0xC000 [0x8B] with regs.a := 0xE1, regs.e := 0x0F, regs.f := 0x10 }
    (t.regs.a, t.regs.f, t.clock) = (0xF1, 0x20, 4) := by decide
theorem test_adc_a_mhl_R200 :
    let t := after { poke 0xC100 0x1E (placed 0xC000 [0x8E]) with regs.a := 0xE1, regs.f := 0x10, regs.h := 0xC1, regs.l := 0x00 }
    (t.regs.a, t.regs.f, t.clock) = (0x00, 0xB0, 8) := by decide
theorem test_adc_a_n_R201 :
    let t := after { placed 0xC000 [0xCE, 0x3B] with regs.a := 0xE1, regs.f := 0x10 }
    (t.regs.a, t.regs.f, t.clock) = (0x1D, 0x10, 8) := by decide
theorem test_sub_e_R202 :
    let t := after { placed 0xC000 [0x93] with regs.a := 0x3E, regs.e := 0x3E }
    (t.regs.a, t.regs.f, t.clock) = (0x00, 0xC0, 4) := by decide
theorem test_sub_mhl_R203 :
    let t := after { poke 0xC100 0x40 (placed 0xC000 [0x96]) with regs.a := 0x3E, regs.h := 0xC1, regs.l := 0x00 }
    (t.regs.a, t.regs.f, t.clock) = (0xFE, 0x50, 8) := by decide
theorem test_sub_n_R204 :
    let t := after { placed 0xC000 [0xD6, 0x0F] with regs.a := 0x3E }
    (t.regs.a, t.regs.f, t.clock) = (0x2F, 0x60, 8) := by decide
theorem test_sbc_a_b_R205 :
    let t := after { placed 0xC000 [0x98] with regs.a := 0x00, regs.b := 0xFF, regs.f := 0x10 }
    (t.regs.a, t.regs.f, t.clock) = (0x00, 0xF0, 4) := by decide
theorem test_sbc_a_mhl_R206 :
    let t := after { poke 0xC100 0x4F (placed 0xC000 [0x9E]) with regs.a := 0x3B, regs.f := 0x10, regs.h := 0xC1, regs.l := 0x00 }
    (t.regs.a, t.regs.f, t.clock) = (0xEB, 0x70, 8) := by decide
theorem test_sbc_a_n_R207 :
    let t := after { placed 0xC000 [0xDE, 0x3A] with regs.a := 0x3B, regs.f := 0x10 }
    (t.regs.a, t.regs.f, t.clock) = (0x00, 0xC0, 8) := by decide
theorem test_and_l_R208 :
    let t := after { placed 0xC000 [0xA5] with regs.a := 0x5A, regs.l := 0x3F }
    (t.regs.a, t.regs.f, t.clock) = (0x1A, 0x20, 4) := by decide
theorem test_and_mhl_R209 :
    let t := after { placed 0xC000 [0xA6] with regs.a := 0x5A, regs.h := 0xC1, regs.l := 0x00 }
    (t.regs.a, t.regs.f, t.clock) = (0x00, 0xA0, 8) := by decide
theorem test_and_n_R210 :
    let t := after { placed 0xC000 [0xE6, 0x38] with regs.a := 0x5A }
    (t.regs.a, t.regs.f, t.clock) = (0x18, 0x20, 8) := by decide
theorem test_xor_b_R211 :
    let t := after { placed 0xC000 [0xA8] with regs.a := 0xFF, regs.b := 0x0F }
    (t.regs.a, t.regs.f, t.clock) = (0xF0, 0x00, 4) := by decide
theorem test_xor_mhl_R212 :
    let t := after { poke 0xC100 0x8A (placed 0xC000 [0xAE]) with regs.a := 0xFF, regs.h := 0xC1, regs.l := 0x00 }
    (t.regs.a, t.regs.f, t.clock) = (0x75, 0x00, 8) := by decide
theorem test_xor_n_R213 :
    let t := after { placed 0xC000 [0xEE, 0xFF] with regs.a := 0xFF }
    (t.regs.a, t.regs.f, t.clock) = (0x00, 0x80, 8) := by decide
theorem test_or_a_R214 :
    let t := after { placed 0xC000 [0xB7] with regs.a := 0x5A }
    (t.regs.a, t.regs.f, t.clock) = (0x5A, 0x00, 4) := by decide
theorem test_or_mhl_R215 :
    let t := after { poke 0xC100 0x0F (placed 0xC000 [0xB6]) with regs.a := 0x5A, regs.h := 0xC1, regs.l := 0x00 }
    (t.regs.a, t.regs.f, t.clock) = (0x5F, 0x00, 8) := by decide
theorem test_or_n_R216 :
    let t := after { placed 0xC000 [0xF6, 0x00] with regs.a := 0x00 }
    (t.regs.a, t.regs.f, t.clock) = (0x00, 0x80, 8) := by decide
theorem test_cp_b_R217 :
    let t := after { placed 0xC000 [0xB8] with regs.a := 0x3C, regs.b := 0x2F }
    (t.regs.a, t.regs.f, t.clock) = (0x3C, 0x60, 4) := by decide
theorem test_cp_mhl_R218 :
    let t := after { poke 0xC100 0x40 (placed 0xC000 [0xBE]) with regs.a := 0x3C, regs.h := 0xC1, regs.l := 0x00 }
    (t.regs.f, t.clock) = (0x50, 8) := by decide
theorem test_cp_n_R219 :
    let t := after { placed 0xC000 [0xFE, 0x3C] with regs.a := 0x3C }
    (t.regs.f, t.clock) = (0xC0, 8) := by decide
theorem test_inc_a_R220 :
    let t := after { placed 0xC000 [0x3C] with regs.a := 0xFF, regs.f := 0x10 }
    (t.regs.a, t.regs.f, t.clock) = (0x00, 0xB0, 4) := by decide
theorem test_inc_mhl_R221 :
    let t := after { poke 0xC100 0x50 (placed 0xC000 [0x34]) with regs.h := 0xC1, regs.l := 0x00, regs.f := 0x10 }
    (peek 0xC100 t, t.regs.f, t.clock) = (some 0x51, 0x10, 12) := by decide
theorem test_dec_l_R222 :
    let t := after { placed 0xC000 [0x2D] with regs.l := 0x01, regs.f := 0x00 }
    (t.regs.l, t.regs.f, t.clock) = (0x00, 0xC0, 4) := by decide
theorem test_dec_mhl_R223 :
    let t := after { placed 0xC000 [0x35] with regs.h := 0xC1, regs.l := 0x00, regs.f := 0x10 }
    (peek 0xC100 t, t.regs.f, t.clock) = (some 0xFF, 0x70, 12) := by decide
theorem test_daa_R224 :
    let t := after { placed 0xC000 [0x27] with regs.a := 0x7D, regs.f := 0x00 }
    (t.regs.a, t.regs.f, t.clock) = (0x83, 0x00, 4) := by decide
theorem test_cpl_R225 :
    let t := after { placed 0xC000 [0x2F] with regs.a := 0x35, regs.f := 0x00 }
    (t.regs.a, t.regs.f, t.clock) = (0xCA, 0x60, 4) := by decide
theorem test_scf_R226 :
    let t := after { placed 0xC000 [0x37] with regs.f := 0xE0 }
    (t.regs.f, t.clock) = (0x90, 4) := by decide
theorem test_ccf_R227 :
    let t := after { placed 0xC000 [0x3F] with regs.f := 0xF0 }
    (t.regs.f, t.clock) = (0x80, 4) := by decide
theorem test_add_hl_bc_R240 :
    let t := after { placed 0xC000 [0x09] with regs.h := 0x8A, regs.l := 0x23, regs.b := 0x06, regs.c := 0x05, regs.f := 0x80 }
    (t.hl, t.regs.f, t.clock) = (0x9028, 0xA0, 8) := by decide
theorem test_inc_de_R241 :
    let t := after { placed 0xC000 [0x13] with regs.d := 0x23, regs.e := 0x5F }
    (t.de, t.clock) = (0x2360, 8) := by decide
theorem test_dec_bc_R242 :
    let t := after { placed 0xC000 [0x0B] with regs.b := 0x01, regs.c := 0x00 }
    (t.bc, t.clock) = (0x00FF, 8) := by decide
theorem test_add_sp_e_R243 :
    let t := after { placed 0xC000 [0xE8, 0x02] with regs.sp := 0xFFF8 }
    (t.regs.sp, t.regs.f, t.clock) = (0xFFFA, 0x00, 16) := by decide
theorem test_rlca_R251 :
    let t := after { placed 0xC000 [0x07] with regs.a := 0x85 }
    (t.regs.a, t.regs.f, t.clock) = (0x0B, 0x10, 4) := by decide
theorem test_rrca_R252 :
    let t := after { placed 0xC000 [0x0F] with regs.a := 0x3B }
    (t.regs.a, t.regs.f, t.clock) = (0x9D, 0x10, 4) := by decide
theorem test_rla_R253 :
    let t := after { placed 0xC000 [0x17] with regs.a := 0x95, regs.f := 0x10 }
    (t.regs.a, t.regs.f, t.clock) = (0x2B, 0x10, 4) := by decide
theorem test_rra_R254 :
    let t := after { placed 0xC000 [0x1F] with regs.a := 0x81, regs.f := 0x00 }
    (t.regs.a, t.regs.f, t.clock) = (0x40, 0x10, 4) := by decide
theorem test_rlc_b_R255 :
    let t := after { placed 0xC000 [0xCB, 0x00] with regs.b := 0x85 }
    (t.regs.b, t.regs.f, t.clock) = (0x0B, 0x10, 8) := by decide
theorem test_rlc_mhl_R256 :
    let t := after { placed 0xC000 [0xCB, 0x06] with regs.h := 0xC1, regs.l := 0x00 }
    (peek 0xC100 t, t.regs.f, t.clock) = (some 0x00, 0x80, 16) := by decide
theorem test_rrc_c_R257 :
    let t := after { placed 0xC000 [0xCB, 0x09] with regs.c := 0x01 }
    (t.regs.c, t.regs.f, t.clock) = (0x80, 0x10, 8) := by decide
theorem test_rl_l_R259 :
    let t := after { placed 0xC000 [0xCB, 0x15] with regs.l := 0x80, regs.f := 0x00 }
    (t.regs.l, t.regs.f, t.clock) = (0x00, 0x90, 8) := by decide
theorem test_rl_mhl_R260 :
    let t := after { poke 0xC100 0x11 (placed 0xC000 [0xCB, 0x16]) with regs.h := 0xC1, regs.l := 0x00, regs.f := 0x00 }
    (peek 0xC100 t, t.regs.f, t.clock) = (some 0x22, 0x00, 16) := by decide
theorem test_rr_a_R261 :
    let t := after { placed 0xC000 [0xCB, 0x1F] with regs.a := 0x01, regs.f := 0x00 }
    (t.regs.a, t.regs.f, t.clock) = (0x00, 0x90, 8) := by decide
theorem test_rr_mhl_R262 :
    let t := after { poke 0xC100 0x8A (placed 0xC000 [0xCB, 0x1E]) with regs.h := 0xC1, regs.l := 0x00, regs.f := 0x00 }
    (peek 0xC100 t, t.regs.f, t.clock) = (some 0x45, 0x00, 16) := by decide
theorem test_sla_d_R263 :
    let t := after { placed 0xC000 [0xCB, 0x22] with regs.d := 0x80 }
    (t.regs.d, t.regs.f, t.clock) = (0x00, 0x90, 8) := by decide
theorem test_sla_mhl_R264 :
    let t := after { poke 0xC100 0xFF (placed 0xC000 [0xCB, 0x26]) with regs.h := 0xC1, regs.l := 0x00 }
    (peek 0xC100 t, t.regs.f, t.clock) = (some 0xFE, 0x10, 16) := by decide
theorem test_sra_a_R265 :
    let t := after { placed 0xC000 [0xCB, 0x2F] with regs.a := 0x8A }
    (t.regs.a, t.regs.f, t.clock) = (0xC5, 0x00, 8) := by decide
theorem test_sra_mhl_R266 :
    let t := after { poke 0xC100 0x01 (placed 0xC000 [0xCB, 0x2E]) with regs.h := 0xC1, regs.l := 0x00 }
    (peek 0xC100 t, t.regs.f, t.clock) = (some 0x00, 0x90, 16) := by decide
theorem test_swap_a_R267 :
    let t := after { placed 0xC000 [0xCB, 0x37] with regs.a := 0xF1 }
    (t.regs.a, t.regs.f, t.clock) = (0x1F, 0x00, 8) := by decide
theorem test_swap_mhl_R268 :
    let t := after { poke 0xC100 0xF0 (placed 0xC000 [0xCB, 0x36]) with regs.h := 0xC1, regs.l := 0x00 }
    (peek 0xC100 t, t.regs.f, t.clock) = (some 0x0F, 0x00, 16) := by decide
theorem test_srl_a_R269 :
    let t := after { placed 0xC000 [0xCB, 0x3F] with regs.a := 0x01 }
    (t.regs.a, t.regs.f, t.clock) = (0x00, 0x90, 8) := by decide
theorem test_srl_mhl_R270 :
    let t := after { poke 0xC100 0xFF (placed 0xC000 [0xCB, 0x3E]) with regs.h := 0xC1, regs.l := 0x00 }
    (peek 0xC100 t, t.regs.f, t.clock) = (some 0x7F, 0x10, 16) := by decide
theorem test_bit_7_a_R271 :
    let t := after { placed 0xC000 [0xCB, 0x7F] with regs.a := 0x80, regs.f := 0x00 }
    (t.regs.f, t.clock) = (0x20, 8) := by decide
theorem test_bit_0_mhl_R272 :
    let t := after { poke 0xC100 0xFE (placed 0xC000 [0xCB, 0x46]) with regs.h := 0xC1, regs.l := 0x00, regs.f := 0x00 }
    (t.regs.f, t.clock) = (0xA0, 12) := by decide
theorem test_res_7_a_R273 :
    let t := after { placed 0xC000 [0xCB, 0xBF] with regs.a := 0x80, regs.f := 0x50 }
    (t.regs.a, t.regs.f, t.clock) = (0x00, 0x50, 8) := by decide
theorem test_res_3_mhl_R274 :
    let t := after { poke 0xC100 0xFF (placed 0xC000 [0xCB, 0x9E]) with regs.h := 0xC1, regs.l := 0x00 }
    (peek 0xC100 t, t.clock) = (some 0xF7, 16) := by decide
theorem test_set_3_a_R275 :
    let t := after { placed 0xC000 [0xCB, 0xDF] with regs.a := 0x80 }
    (t.regs.a, t.clock) = (0x88, 8) := by decide
theorem test_set_3_mhl_R276 :
    let t := after { placed 0xC000 [0xCB, 0xDE] with regs.h := 0xC1, regs.l := 0x00 }
    (peek 0xC100 t, t.clock) = (some 0x08, 16) := by decide
theorem test_jp_nn_R286 :
    let t := after (placed 0x0100 [0xC3, 0x50, 0x01])
    (t.regs.pc, t.clock) = (0x0150, 16) := by decide
theorem test_jp_z_nn_R287 :
    let t := after { placed 0x0200 [0xCA, 0x00, 0x80] with regs.f := 0x80 }
    (t.regs.pc, t.clock) = (0x8000, 16) := by decide
theorem test_jp_hl_R288 :
    let t := after { placed 0x0100 [0xE9] with regs.h := 0xC0, regs.l := 0x00 }
    (t.regs.pc, t.clock) = (0xC000, 4) := by decide
theorem test_jr_e_R289 :
    let t := after (placed 0x0000 [0x18, 0xFD])
    (t.regs.pc, t.clock) = (0xFFFF, 12) := by decide
theorem test_jr_nz_e_R290 :
    let t := after { placed 0x0106 [0x20, 0xFC] with regs.f := 0x00 }
    (t.regs.pc, t.clock) = (0x0104, 12) := by decide
theorem test_call_nn_R291 :
    let t := after { placed 0x0108 [0xCD, 0x10, 0x01] with regs.sp := 0xFFFE }
    (t.regs.pc, t.regs.sp, peek 0xFFFD t, peek 0xFFFC t, t.clock) = (0x0110, 0xFFFC, some 0x01, some 0x0B, 24) := by decide
theorem test_call_c_nn_R292 :
    let t := after { placed 0x0200 [0xDC, 0x00, 0x30] with regs.f := 0x00, regs.sp := 0xFFFE }
    (t.regs.pc, t.regs.sp, t.clock) = (0x0203, 0xFFFE, 12) := by decide
theorem test_ret_R293 :
    let t := after { poke 0xFFFD 0x01 (poke 0xFFFC 0x0B (placed 0xC000 [0xC9])) with regs.sp := 0xFFFC }
    (t.regs.pc, t.regs.sp, t.clock) = (0x010B, 0xFFFE, 16) := by decide
theorem test_ret_nz_R294 :
    let t := after { poke 0xFFFD 0x01 (poke 0xFFFC 0x0B (placed 0xC000 [0xC0])) with regs.f := 0x00, regs.sp := 0xFFFC }
    (t.regs.pc, t.clock) = (0x010B, 20) := by decide
theorem test_reti_R297 :
    let t := after { poke 0xCFFF 0x02 (poke 0xCFFE 0x34 (placed 0xC100 [0xD9])) with regs.sp := 0xCFFE }
    (t.regs.pc, t.regs.sp, t.irq.ime, t.clock) = (0x0234, 0xD000, true, 16) := by decide
theorem test_rst_28_R298 :
    let t := after { placed 0x0150 [0xEF] with regs.sp := 0xFFFE }
    (t.regs.pc, t.regs.sp, peek 0xFFFC t, peek 0xFFFD t, t.clock) = (0x0028, 0xFFFC, some 0x51, some 0x01, 16) := by decide
theorem test_halt_R301 :
    let t := after { placed 0xC000 [0x76] with irq.ime := true, irq.ie := 0x04, irq.ifl := 0x00, timer.tac := 5, timer.tima := 0xFF, timer.tma := 0x10 }
    (t.irq.halted, t.regs.pc, t.clock) = (true, 0xC001, 4) := by decide
theorem test_di_R303 :
    let t := after { placed 0xC000 [0xF3] with irq.ime := true, irq.ifl := 0x04, irq.ie := 0x04 }
    (t.irq.ime, t.regs.pc, t.clock) = (false, 0xC001, 4) := by decide

/-! ## Interrupts, faults, devices: 95_test_vectors.md sections 1, 3, 4, 5, 6, 7 -/

theorem test_dispatch_P4 :
    let t := after { placed 0xC000 [0x00] with irq.ime := true, irq.ifl := 0x01, irq.ie := 0x01 }
    (t.regs.pc, t.regs.sp, peek 0xDFEF t, peek 0xDFEE t, t.irq.ime, t.irq.ifl, t.clock) =
      (0x0040, 0xDFEE, some 0xC0, some 0x01, false, 0x00, 24) := by decide
theorem test_dispatch_lowest_bit :
    let t := after { placed 0xC000 [0x00] with irq.ime := true, irq.ifl := 0x16, irq.ie := 0x1F }
    (t.regs.pc, t.irq.ifl, t.clock) = (0x0048, 0x14, 24) := by decide
theorem test_bit5_wakes_without_dispatch :
    let t := after { placed 0xC000 [0x00] with irq.ime := true, irq.halted := true, irq.ifl := 0x20, irq.ie := 0xE0 }
    (t.irq.halted, t.regs.pc, t.irq.ifl, t.irq.ime, t.clock) = (false, 0xC001, 0x20, true, 4) := by decide
theorem test_halted_idles :
    let t := after { placed 0xC000 [0x04] with irq.ime := true, irq.halted := true, irq.ie := 0x01 }
    (t.irq.halted, t.regs.pc, t.regs.b, t.clock) = (true, 0xC000, 0x00, 4) := by decide
theorem test_ei_step_takes_nothing :
    let t := after { placed 0xC000 [0xFB, 0x00, 0x00] with irq.ifl := 0x04, irq.ie := 0x04 }
    (t.regs.pc, t.irq.ime, t.irq.imePending, t.irq.ifl, t.clock) = (0xC001, true, false, 0x04, 4) := by decide
theorem test_stop_faults :
    let t := after (placed 0x0150 [0x10, 0x00])
    (t.fault, t.clock) = (some ⟨.stopUnmodelled 0x10, 0x0150⟩, 0) := by decide
theorem test_unknown_opcode_faults :
    let t := after (placed 0xC000 [0xDD])
    (t.fault, t.clock) = (some ⟨.illegalOpcode 0xDD, 0xC000⟩, 0) := by decide
theorem test_uncovered_read_faults :
    let t := after (placed 0xC000 [0xFA, 0x03, 0xFF])
    (t.fault, t.clock, t.regs.a) = (some ⟨.busFault 0xFF03, 0xC000⟩, 0, 0x00) := by decide
theorem test_uncovered_write_faults :
    (after { placed 0xC000 [0xE0, 0x7F] with regs.a := 0x01 }).fault = some ⟨.busFault 0xFF7F, 0xC000⟩ := by decide
theorem test_faulted_machine_stops :
    goesOn { base with fault := some ⟨.busFault 0xFF03, 0xC000⟩ } = false := by decide
theorem test_timer_overflow_P5 :
    let t := timerTick { base with timer := ⟨0x03FF, 0xFF, 0xAB, 0b100⟩ }
    (t.timer.divider, t.timer.tima, t.irq.ifl) = (0x0400, 0xAB, 0x04) := by decide
theorem test_div_write_does_not_count :
    (busWrite 0xFF04 0x77 { base with timer := ⟨0x0008, 0x00, 0x00, 0b101⟩ }).state.timer = ⟨0x0000, 0x00, 0x00, 0b101⟩ := by
  decide
theorem test_dma_starts_with_the_writing_step :
    let t := after { placed 0xC000 [0xE0, 0x46] with regs.a := 0xC0 }
    (t.dma.active, t.dma.offset, peek 0xFE00 t, peek 0xFE01 t) = (true, 12, some 0xE0, some 0x46) := by decide
theorem test_ppu_first_dot :
    (tick1 { base with ppu.lcdc := 0x91 }).state.ppu.statByte = 0x86 := by decide
theorem test_ppu_enters_drawing :
    (tick1 { base with ppu.lcdc := 0x91, ppu.dot := 80, ppu.mode := .oamScan }).state.ppu.statByte = 0x87 := by decide
theorem test_ppu_enters_vblank :
    let t := (tick1 { base with ppu.lcdc := 0x91, ppu.ly := 144 }).state
    (t.ppu.statByte, t.irq.ifl) = (0x81, 0x01) := by decide
theorem test_ppu_hidden_sprite :
    let p : Ppu := { Ppu.reset with fifo := List.replicate 8 ⟨3, .bg, false⟩, spLo := 0xFF, spHi := 0xFF }
    (p.spriteMerge ⟨16, 8, 1, 0x80, 0⟩).fifo = p.fifo ∧
      (p.spriteMerge ⟨16, 8, 1, 0x10, 0⟩).fifo = List.replicate 8 ⟨3, .obj1, true⟩ := by decide
theorem test_mbc1_bank_zero_P7 :
    let s : State := { base with cfg.kind := .mbc1, cfg.nbanks := 4, cfg.rom := [(0x4000, 1), (0x8000, 2), (0xC000, 3)] }
    peek 0x4000 (busWrite 0x2000 0x00 s).state = some 0x01 ∧ peek 0x4000 (busWrite 0x2000 0x07 s).state = some 0x03 ∧
      peek 0x4000 (busWrite 0x2000 0x04 s).state = some 0x00 := by decide
theorem test_mbc3_latch :
    let s : State := { base with cfg.kind := .mbc3, cart.ramEnable := true, cart.ramBank := 8, env := ⟨[1, 2, 3, 4, 5], [], 0⟩ }
    peek 0xA000 (busWrite 0x6000 0x01 (busWrite 0x6000 0x00 s).state).state = some 0x01 ∧
      peek 0xA000 (busWrite 0x6000 0x01 s).state = some 0x00 := by decide
theorem test_mbc5_ninth_bit :
    let s : State := { base with cfg.kind := .mbc5, cfg.nbanks := 512 }
    (busWrite 0x2000 0x23 (busWrite 0x3000 0x01 s).state).state.cart.romBank = 0x123 := by decide
theorem test_cartridge_ram_gate :
    let s : State := { base with cfg.kind := .mbc1, cfg.nbanks := 4, cfg.cartRamSize := 0x8000, cart.ramBank := 1,
                                 cart.bankMode := true }
    peek 0xA000 s = some 0xFF ∧ (busWrite 0xA000 0x55 s).state.cart.ram = [] ∧
      (busWrite 0xA000 0x66 (busWrite 0x0000 0x0A s).state).state.cart.ram = [(0x2000, 0x66)] := by decide

/-- One T-cycle ends with the audio tick, then the serial tick (60_exceptions.md R312), newest first in the record. -/
theorem test_tick_calls_audio_then_serial :
    (tick1 { base with env.bits := [true] }).state.outbox = [.serialTick, .audioTick] ∧
    (tick1 { base with env.bits := [true] }).state.irq.ifl = base.irq.ifl ||| 0x08 := by decide

/-! ## Witnesses: the hypotheses of the statements are met -/

/-- `RET NZ` and what it pops, in WRAM. -/
def stacked : State := { poke 0xC101 0x12 (poke 0xC100 0x34 (placed 0xC000 [0xC0])) with regs.sp := 0xC100 }

theorem quiet_of_rest {n : Nat} {s : State} (hd : s.dma.active = false) (hl : s.ppu.lcdOn = false)
    (ht : s.timer.tac.getLsbD 2 = false) (hb : s.env.bits = List.replicate n false ++ s.env.bits.drop n) : DevicesQuiet n s :=
  ⟨hd, hl, ht, _, hb⟩

theorem pops_stacked : ∃ u, Pops 0x1234 stacked u :=
  ⟨_, 0x34, 0x12, _, _, .inl ⟨by decide, rfl⟩, .inl ⟨by decide, rfl⟩, by decide, rfl⟩

theorem test_witness_DecodeReadsBackEveryEncoding :
    WellFormed (.ld_bc_nn 0xFFFF) = true ∧ WellFormed (.jr_nz_e 0x80) = true ∧ WellFormed .set_7_a = true := by decide
theorem test_witness_EncodeReadsBackEveryDecoding :
    decode [0x01, 0x34, 0x12, 0xFF] = .ok (.ld_bc_nn 0x1234, [0xFF]) ∧ decode [0xCB, 0xFF] = .ok (.set_7_a, []) := by decide
theorem test_witness_LengthIsGivenByTheFirstByte :
    decode [0x00] = .ok (.nop, []) ∧ decode [0x06, 0x12] = .ok (.ld_b_n 0x12, []) ∧
    decode [0x06] = .error (.truncated 0x06 2 1) ∧ decode [0x01, 0x34, 0x12] = .ok (.ld_bc_nn 0x1234, []) ∧
    decode [0x01, 0x34] = .error (.truncated 0x01 3 2) := by decide
theorem test_witness_ResetMeetsTheInvariants :
    Memory.wf 8192 [(0, 0x01), (8191, 0xFF)] = true ∧ Memory.wf 160 [(159, 0x01)] = true ∧
    Memory.wf 127 [(126, 0x01)] = true ∧ Memory.wf 0x2000 [(0x1FFF, 0x01)] = true := by decide
/-- An instruction of each length, one that faults among them. -/
theorem test_witness_StepRunsTheDecodedInstruction :
    (Running (placed 0xC000 [0x00]) ∧ decode [0x00] = .ok (.nop, []) ∧ BytesAt (placed 0xC000 [0x00]) 0xC000 [0x00] ∧
      (exec .nop (fetched 0x00 1 (placed 0xC000 [0x00]))) = .next (fetched 0x00 1 (placed 0xC000 [0x00]))) ∧
    (Running (placed 0xDFFE [0x31, 0x34, 0x12]) ∧ decode [0x31, 0x34, 0x12] = .ok (.ld_sp_nn 0x1234, []) ∧
      BytesAt (placed 0xDFFE [0x31, 0x34, 0x12]) 0xDFFE [0x31, 0x34, 0x12]) ∧
    (Running (placed 0xC000 [0xD3]) ∧ decode [0xD3] = .ok (.illegal_d3, []) ∧ BytesAt (placed 0xC000 [0xD3]) 0xC000 [0xD3] ∧
      (after (placed 0xC000 [0xD3])).fault ≠ none) := by
  unfold Running
  refine ⟨⟨by decide, by decide, by simp only [BytesAt]; decide, rfl⟩, ⟨by decide, by decide, by simp only [BytesAt]; decide⟩,
    by decide, by decide, by simp only [BytesAt]; decide, by decide⟩
/-- With interrupts off, and with them on and nothing pending. -/
theorem test_witness_QuietStepIsEffectThenTime (ime : Bool) :
    let s : State := { placed 0xC000 [0x04] with irq.ime := ime, irq.ie := 0x1F }
    Running s ∧ decode [0x04] = .ok (.inc_b, []) ∧ BytesAt s s.regs.pc [0x04] ∧
      ∃ t, exec .inc_b (fetched 0x04 1 s) = .next t ∧ t.fault = none ∧
        DevicesQuiet (cost .inc_b (fetched 0x04 1 s)) t ∧ t.irq.ifl &&& t.irq.ie &&& 0x1F#8 = 0x00#8 := by
  cases ime <;>
    exact ⟨⟨by decide, by decide⟩, by decide, ⟨by decide, trivial⟩, _, rfl, by decide,
      quiet_of_rest (by decide) (by decide) (by decide) (by decide), by decide⟩
theorem test_witness_HaltedStepIdlesOrResumes :
    (let s : State := { base with irq.halted := true, irq.ie := 0x1F }
     s.fault = none ∧ s.irq.halted = true ∧ s.irq.ifl &&& s.irq.ie = 0x00#8 ∧ DevicesQuiet 4 s) ∧
    (let s : State := { base with irq.halted := true, irq.ie := 0x80, irq.ifl := 0x80 }
     s.fault = none ∧ s.irq.halted = true ∧ s.irq.ifl &&& s.irq.ie ≠ 0x00#8) := by
  refine ⟨⟨rfl, rfl, by decide, quiet_of_rest (by decide) (by decide) (by decide) (by decide)⟩, rfl, rfl, by decide⟩
/-- The first and the last interrupt, a stack that takes the push, one that faults at each write, and nothing to take. -/
theorem test_witness_DispatchTakesTheLowestPendingInterrupt :
    (let p : Byte := 0x1F &&& 0x01
     bitAt p 0 = true ∧ ∀ j, j < 0 → bitAt p j = false) ∧
    (let p : Byte := 0xF0 &&& 0x1F
     bitAt p 4 = true ∧ ∀ j, j < 4 → bitAt p j = false) ∧
    (Covered (0xDFF0#16 - 1) ∧ Covered (0xDFF0#16 - 2)) ∧
    (∃ t, PushFaults 0x1234 { base with regs.sp := 0xFF04 } t) ∧ (∃ t, PushFaults 0x1234 { base with regs.sp := 0xFF05 } t) ∧
    (∀ j, j < 5 → bitAt 0xE0#8 j = false) := by
  refine ⟨by decide, by decide, ⟨by unfold Covered; decide, by unfold Covered; decide⟩, ⟨_, .inl ⟨by unfold Covered; decide, rfl⟩⟩,
    ⟨_, .inr ⟨by unfold Covered; decide, _, writeTarget_stores _ _ (by unfold Covered; decide), rfl⟩⟩, by decide⟩
theorem test_witness_StepDispatchesAfterTheInstruction (sp : Word) (h : sp = 0xC002 ∨ sp = 0xE000) :
    let s : State := { placed 0xC800 [0x00] with regs.sp := sp, irq.ime := true, irq.ifl := 0x10, irq.ie := 0x1F }
    Running s ∧ BytesAt s s.regs.pc [0x00] ∧ s.irq.ime = true ∧ s.irq.imePending = false ∧
      bitAt (s.irq.ifl &&& s.irq.ie) 4 = true ∧ (∀ j, j < 4 → bitAt (s.irq.ifl &&& s.irq.ie) j = false) ∧
      (0xC000 ≤ s.regs.sp.toNat - 2 ∧ s.regs.sp.toNat ≤ 0xE000) ∧ DevicesQuiet 24 s := by
  rcases h with rfl | rfl <;>
    exact ⟨⟨by decide, by decide⟩, ⟨by decide, trivial⟩, by decide, by decide, by decide, by decide, by decide,
      quiet_of_rest (by decide) (by decide) (by decide) (by decide)⟩
theorem test_witness_EiTakesEffectAfterItsOwnCheck :
    let s : State := { placed 0xC000 [0xFB] with irq.ifl := 0x04, irq.ie := 0x04 }
    Running s ∧ BytesAt s s.regs.pc [0xFB] ∧ s.irq.ime = false ∧ DevicesQuiet 4 s :=
  ⟨⟨rfl, .inl rfl⟩, ⟨by decide, trivial⟩, rfl, quiet_of_rest (by decide) (by decide) (by decide) (by decide)⟩
theorem test_witness_FaultedMachineDoesNotStep :
    ({ base with fault := some ⟨.illegalOpcode 0xD3, 0xC000⟩ } : State).fault = some ⟨.illegalOpcode 0xD3, 0xC000⟩ := by decide
theorem test_witness_UnknownOpcodesAndStopTakeTheirFault :
    (0xD3#8, Instr.illegal_d3) ∈ unknownOpcodes ∧ (0xFD#8, Instr.illegal_fd) ∈ unknownOpcodes ∧
    (Running (placed 0xC000 [0xFD]) ∧ BytesAt (placed 0xC000 [0xFD]) 0xC000 [0xFD]) ∧
    (Running (placed 0xC000 [0x10, 0x7F]) ∧ BytesAt (placed 0xC000 [0x10, 0x7F]) 0xC000 [0x10, 0x7F]) := by
  refine ⟨by decide, by decide, ⟨⟨rfl, .inl rfl⟩, by decide, trivial⟩, ⟨rfl, .inl rfl⟩, by decide, by decide, trivial⟩
theorem test_witness_UncoveredAddressRaisesBusFault :
    ([0xFF03, 0xFF08, 0xFF0E, 0xFF4C, 0xFF4F, 0xFF51, 0xFF7F].all fun a => locate false a == .uncovered) = true ∧
    ([0xFF02, 0xFF04, 0xFF07, 0xFF0F, 0xFF4B, 0xFF50, 0xFF80].all fun a => locate false a != .uncovered) = true ∧
    (Running { base with regs.pc := 0xFF03 } ∧ ¬Covered 0xFF03) :=
  ⟨by decide, by decide, ⟨rfl, .inl rfl⟩, by unfold Covered; decide⟩
/-- The instructions of that statement: `(HL)`, a named address, the second byte of `LD (nn),SP`, and the stack at each
access. -/
theorem test_witness_UncoveredAddressRaisesBusFault_instructions :
    ¬Covered { base with regs.h := 0xFF, regs.l := 0x03 }.hl ∧ ¬Covered ((AAddr.high 0x7F).at base) ∧
    ¬Covered ((AAddr.highC).at { base with regs.c := 0x4C }) ∧ ¬Covered 0xFF7F ∧ (Covered 0xFF02 ∧ ¬Covered (0xFF02 + 1)) ∧
    (∃ t, PushFaults 0x1234 { base with regs.sp := 0xFF04 } t) ∧ (∃ t, PushFaults 0x1234 { base with regs.sp := 0xFF05 } t) ∧
    (∃ u, PopFaults { base with regs.sp := 0xFF7F } u) ∧ (∃ u, PopFaults { base with regs.sp := 0xFF07 } u) :=
  ⟨by unfold Covered; decide, by unfold Covered; decide, by unfold Covered; decide, by unfold Covered; decide,
    by unfold Covered; decide, ⟨_, .inl ⟨by unfold Covered; decide, rfl⟩⟩,
    ⟨_, .inr ⟨by unfold Covered; decide, _, writeTarget_stores _ _ (by unfold Covered; decide), rfl⟩⟩,
    ⟨_, .inl ⟨by unfold Covered; decide, rfl⟩⟩, ⟨_, .inr ⟨by unfold Covered; decide, _, _, .inl ⟨rfl, rfl⟩, rfl⟩⟩⟩
theorem test_witness_FlagNibbleStaysZero :
    FlagNibbleZero { placed 0xC000 [0xF1] with regs.f := 0xF0 } ∧
    ∃ t, step { placed 0xC000 [0xF1] with regs.f := 0xF0 } = .next t :=
  ⟨by unfold FlagNibbleZero; decide, _, step_after (by decide)⟩
/-- A store to WRAM while a transfer is in progress. -/
theorem test_witness_MemoriesStayCanonical :
    let s : State := { placed 0xC000 [0x77] with regs.h := 0xC1, regs.a := 0x5A, dma := ⟨true, 0xC0, 159⟩ }
    MemoriesCanonical s ∧ DmaInRange s ∧ ∃ t, step s = .next t := by
  refine ⟨?_, ?_, _, step_after (by decide)⟩
  · unfold MemoriesCanonical; decide
  · unfold DmaInRange; decide
theorem test_witness_PpuStaysInRange :
    let s : State := { placed 0xC000 [0x00] with ppu.lcdc := 0x93, ppu.ly := 153, ppu.dot := 455, ppu.mode := .vblank }
    PpuInRange s.ppu ∧ ∃ t, step s = .next t := by
  refine ⟨?_, _, step_after (by decide)⟩
  constructor <;> decide
theorem test_witness_StepsNeverUndoWhatIsFinal :
    let s : State := placed 0xC000 [0xFB]
    (∃ t, step s = .next t ∧ t.fault = none) ∧ s.bootEnabled = false :=
  ⟨⟨_, step_after (by decide), by decide⟩, rfl⟩
theorem test_witness_StepTakesWholeMachineCycles :
    (∃ t, step (placed 0xC000 [0x00]) = .next t ∧ t.fault = none) ∧
    (∃ t, step { placed 0xC000 [0xCD, 0x00, 0xC1] with irq.ime := true, irq.ifl := 0x01, irq.ie := 0x01 } = .next t ∧
      t.fault = none) :=
  ⟨⟨_, step_after (by decide), by decide⟩, ⟨_, step_after (by decide), by decide⟩⟩
theorem test_witness_BankRegistersStayLegal :
    (let s : State := { placed 0xC000 [0xEA, 0x00, 0x20] with cfg.kind := .mbc1, cart.romBank := 31, cart.ramBank := 3 }
     BankInRange s ∧ ∃ t, step s = .next t) ∧
    (let s : State := { placed 0xC000 [0xEA, 0x00, 0x20] with cfg.kind := .mbc3, cart.romBank := 127 }
     BankInRange s ∧ ∃ t, step s = .next t) := by
  refine ⟨⟨?_, _, step_after (by decide)⟩, ?_, _, step_after (by decide)⟩
  · simp only [BankInRange]; decide
  · simp only [BankInRange]; decide
/-- The last count before an overflow, a disabled timer, and the three cases of one tick. -/
theorem test_witness_TimaCountsThePeriodsOfTheDivider :
    (let t : Timer := ⟨0x000F, 0xFE, 0xAB, 0b101⟩
     t.tac.getLsbD 2 = true ∧ t.tima.toNat + ((t.divider.toNat + 1) / 16 - t.divider.toNat / 16) ≤ 0xFF) ∧
    (0b001#3).getLsbD 2 = false ∧ (0x03FF + 1) % 1024 = 0 ∧ (0x03FE + 1) % 1024 ≠ 0 := by decide
/-- An idle unit, a byte of WRAM, the answer of a port (source page `0xFF`), and the uncovered `0xFF03`. -/
theorem test_witness_DmaTickCopiesOneByte :
    (∃ v u, Reads 0xC09F { base with dma := ⟨true, 0xC0, 159⟩ } v u) ∧
    (∃ v u, Reads 0xFF00 { base with dma := ⟨true, 0xFF, 0⟩ } v u) ∧ ¬Covered ((0xFF#8 ++ 0x00#8) + (0x03#8).setWidth 16) :=
  ⟨⟨_, _, .inl ⟨rfl, rfl⟩⟩, ⟨_, _, .inr ⟨by decide, rfl⟩⟩, by unfold Covered; decide⟩
theorem test_witness_DmaTransferFillsOamIn160Cycles :
    (∃ t, busWrite 0xFF46#16 0xC0 base = .ok () t) ∧ (∃ t, busWrite 0xFF46#16 0xDF base = .ok () t) := ⟨⟨_, rfl⟩, ⟨_, rfl⟩⟩
theorem test_witness_LcdEnableBitStartsAndStopsThePpu :
    (bitAt 0x80#8 7 = true ∧ bitAt 0x7F#8 7 = false) ∧ bitAt ({ base with ppu.lcdc := 0x91 } : State).ppu.lcdc 7 = true := by
  decide
theorem test_witness_FrameIs70224Dots :
    let p : Ppu := { Ppu.reset with lcdc := 0x80, dot := 455, ly := 153 }
    p.lcdOn = true ∧ p.dot < 456 ∧ p.ly.toNat < 154 := by decide
/-- The dots where the cases meet: 0, 79, 80 and 81 of line 143, dots 0 and 1 of line 144, the end of the frame. -/
theorem test_witness_PpuModesAndCoincidence :
    (let p : Ppu := { Ppu.reset with lcdc := 0x80, ly := 143, statEn := 0b0100 }
     p.lcdOn = true ∧ p.ly.toNat ≤ 143 ∧ p.dot = 0 ∧ p.statEn.getLsbD 2 = true) ∧
    (let p : Ppu := { Ppu.reset with lcdc := 0x80, ly := 143, dot := 79, mode := .oamScan }
     p.lcdOn = true ∧ p.ly.toNat ≤ 143 ∧ 0 < p.dot ∧ p.dot < 80 ∧ p.mode = .oamScan) ∧
    (let p : Ppu := { Ppu.reset with lcdc := 0x80, ly := 143, dot := 80, mode := .oamScan }
     p.lcdOn = true ∧ p.ly.toNat ≤ 143 ∧ p.dot = 80) ∧
    (let p : Ppu := { Ppu.reset with lcdc := 0x80, ly := 143, dot := 81 }
     p.lcdOn = true ∧ p.ly.toNat ≤ 143 ∧ 80 < p.dot ∧ p.mode ≠ .drawing) ∧
    (let p : Ppu := { Ppu.reset with lcdc := 0x80, ly := 144, statEn := 0b0010 }
     p.lcdOn = true ∧ p.ly.toNat = 144 ∧ p.dot = 0 ∧ p.statEn.getLsbD 1 = true) ∧
    (let s : State := { base with ppu.lcdc := 0x80, ppu.ly := 153, ppu.dot := 455, ppu.statEn := 0b1000 }
     let t := ppuTick s
     s.ppu.lcdOn = true ∧ 144 ≤ s.ppu.ly.toNat ∧ ¬(s.ppu.ly.toNat = 144 ∧ s.ppu.dot = 0) ∧ t.ppu.ly = t.ppu.lyc ∧
       s.ppu.coincidence = false ∧ s.ppu.statEn.getLsbD 3 = true) := by decide
/-- The first pixel that is on the screen written, the last one under each flip, a transparent one, a claimed slot, a
sprite hidden by the background, slots on each side of the sprite, and the merge step. -/
theorem test_witness_SpriteMergeKeepsPriority :
    let sp : Sprite := ⟨16, 8, 0, 0x30, 0⟩
    let p : Ppu := { Ppu.reset with fifo := List.replicate 9 ⟨1, .bg, false⟩, sprites := [sp], spLo := 0x81, spStep := .merge }
    p.sprites[p.spCur]? = some sp ∧ (0 < 8 ∧ p.lx + 8 ≤ sp.x.toNat + 0) ∧ (7 < 8 ∧ p.lx + 8 ≤ sp.x.toNat + 7) ∧
    p.fifo[7]? = some ⟨1, .bg, false⟩ ∧ (p.spriteMerge p.curSprite).fifo[0]? = some ⟨1, .obj1, true⟩ ∧
    (p.spriteMerge p.curSprite).fifo[1]? = some ⟨1, .bg, false⟩ ∧ (p.spriteMerge p.curSprite).fifo[7]? = some ⟨1, .obj1, true⟩ ∧
    sp.x.toNat ≤ p.lx + 8 ∧ p.fifo[8]? = some ⟨1, .bg, false⟩ ∧ p.spStep = .merge := by decide
theorem test_witness_SpriteMergeKeepsPriority_kept :
    (let p : Ppu := { Ppu.reset with fifo := [⟨1, .obj0, true⟩], sprites := [⟨16, 8, 0, 0x80, 0⟩], spLo := 0xFF }
     p.sprites[p.spCur]? = some ⟨16, 8, 0, 0x80, 0⟩ ∧ ∃ e, p.fifo[0]? = some e ∧ e.fromSprite = true) ∧
    (let p : Ppu := { Ppu.reset with fifo := [⟨1, .bg, false⟩], sprites := [⟨16, 8, 0, 0x80, 0⟩], spLo := 0xFF }
     ∃ e, p.fifo[0]? = some e ∧ bitAt p.curSprite.attr 7 = true ∧ e.ci ≠ 0#2) ∧
    (let p : Ppu := { Ppu.reset with fifo := [⟨1, .bg, false⟩], sprites := [⟨16, 9, 0, 0x00, 0⟩], spLo := 0xFF }
     p.lx + 0 + 8 < (9#8).toNat ∧ (p.spriteMerge p.curSprite).fifo[0]? = some ⟨1, .bg, false⟩) :=
  ⟨⟨rfl, _, rfl, rfl⟩, ⟨_, rfl, by decide, by decide⟩, by decide⟩
/-- The watermark: 8 entries, and 9 with and without a pixel to discard, the 160th pixel among them. -/
theorem test_witness_CompositorEmitsThePaletteShade :
    let e : PixelFifoEntry := ⟨2, .bg, false⟩
    (({ Ppu.reset with fifo := List.replicate 8 e } : Ppu).fifo.length ≤ 8) ∧
    (let p : Ppu := { Ppu.reset with fifo := e :: List.replicate 8 e, discard := 1 }
     p.fifo = e :: List.replicate 8 e ∧ 8 ≤ (List.replicate 8 e).length ∧ 0 < p.discard) ∧
    (let p : Ppu := { Ppu.reset with fifo := e :: List.replicate 8 e, lx := 159 }
     p.fifo = e :: List.replicate 8 e ∧ p.discard = 0 ∧ p.lx = 159) := by decide
/-- A port address at each end of its ranges, an answer given in advance and none. -/
theorem test_witness_IoRegistersFollowTheirTable :
    ([0xFF00, 0xFF01, 0xFF02, 0xFF10, 0xFF3F].all fun a => locate false a == .port a) = true ∧
    ({ base with env.bytes := [0x5A] } : State).env.bytes = 0x5A :: [] ∧ base.env.bytes = [] := by decide
/-- Each end of each region. -/
theorem test_witness_RamEchoAndReservedRegions :
    (locate false 0x8000 = .vram 0 ∧ locate false 0x9FFF = .vram 8191 ∧ locate false 0xC000 = .wram 0 ∧
      locate false 0xDFFF = .wram 8191 ∧ locate false 0xE000 = .wram 0 ∧ locate false 0xFDFF = .wram 7679) ∧
    (locate false 0xFE00 = .oam 0 ∧ locate false 0xFE9F = .oam 159 ∧ locate false 0xFEA0 = .reserved ∧
      locate false 0xFEFF = .reserved ∧ locate false 0xFF80 = .hram 0 ∧ locate false 0xFFFE = .hram 126) := by decide
theorem test_witness_BootOverlayCoversTheFirstPage :
    (0x00FF#16).toNat < 0x100 ∧ State.reset.bootEnabled = true ∧ base.bootEnabled = false ∧
    locate true 0x00FF = .boot 0xFF ∧ locate true 0x0100 = .cart 0x100 := by decide
theorem test_witness_RomIsReadOnlyAndWellFormed :
    (0x7FFF#16).toNat < 0x8000 ∧ base.cfg.kind = .noMbc ∧
    (loadCartridge (.other 2) 0x8000 defaultCfg).isOk = false ∧ (loadCartridge (.kind .mbc1) 0x8000 defaultCfg).isOk = true ∧
    (loadCartridge (.kind .mbc1) 0xC000 defaultCfg).isOk = false ∧
    (loadCartridge (.kind .mbc1) 0x4000 defaultCfg).isOk = false := by decide
/-- The four register windows at their ends, and a state within range. -/
theorem test_witness_Mbc1SelectsBanks :
    let s : State := { base with cfg.kind := .mbc1, cfg.nbanks := 4, cart.romBank := 31, cart.ramBank := 3 }
    s.cfg.kind = .mbc1 ∧ s.bootEnabled = false ∧ (s.cart.romBank ≠ 0 ∧ s.cart.romBank.toNat < 32 ∧ s.cart.ramBank.toNat < 4) ∧
    (busWrite 0x1FFF 0x0A s).state.cart.ramEnable = true ∧ (busWrite 0x3FFF 0xE0 s).state.cart.romBank = 1 ∧
    (busWrite 0x5FFF 0x06 s).state.cart.ramBank = 2 ∧ (busWrite 0x7FFF 0x01 s).state.cart.bankMode = true := by decide
/-- A clock register at each end, a closed window on each side of them, and the three cases of the latch. -/
theorem test_witness_Mbc3BanksClockAndLatch :
    let s : State := { base with cfg.kind := .mbc3, cfg.nbanks := 128, cart.ramEnable := true, cart.latchArmed := true,
                                 env.bytes := [1, 2, 3, 4, 5] }
    s.cfg.kind = .mbc3 ∧
    peek 0xBFFF { s with cart.ramBank := 0x8, cart.rtc.seconds := 0x11 } = some 0x11 ∧
    peek 0xA000 { s with cart.ramBank := 0xC, cart.rtc.dayHigh := 0x22 } = some 0x22 ∧
    peek 0xA000 { s with cart.ramBank := 0x7 } = some 0xFF ∧ peek 0xA000 { s with cart.ramBank := 0xD } = some 0xFF ∧
    (busWrite 0x6000 0x02 s).state.cart.latchArmed = false ∧ s.env.bytes = [1, 2, 3, 4, 5] ∧
    (busWrite 0x7FFF 0x01 s).state.cart.rtc = ⟨1, 2, 3, 4, 5⟩ := by decide
theorem test_witness_Mbc5SelectsBanks :
    let s : State := { base with cfg.kind := .mbc5, cfg.nbanks := 512, cart.romBank := 0x1FF }
    s.cfg.kind = .mbc5 ∧ (busWrite 0x2FFF 0x00 s).state.cart.romBank = 0x100 ∧ (busWrite 0x3FFF 0xFE s).state.cart.romBank = 0xFF ∧
    (busWrite 0x5FFF 0xFF s).state.cart.ramBank = 0xF ∧ (busWrite 0x7FFF 0xFF s).state = s := by decide
/-- Each way to be closed, and an open window with and without a bank. -/
theorem test_witness_CartridgeRamIsGated :
    (let s : State := { base with cfg.kind := .mbc3, cfg.cartRamSize := 0, cart.ramEnable := true, cart.ramBank := 3 }
     s.cfg.kind = .mbc3 ∧ s.cart.ramBank.toNat ≤ 3 ∧ s.cfg.cartRamSize = 0 ∧ peek 0xBFFF s = some 0xFF) ∧
    (let s : State := { base with cfg.kind := .mbc5, cfg.cartRamSize := 0x2000, cart.ramEnable := true, cart.ramBank := 15 }
     s.cfg.kind ≠ .noMbc ∧ s.cart.ramEnable = true ∧ s.cfg.cartRamSize ≠ 0 ∧ s.cfg.cartRamSize % 0x2000 = 0 ∧
       peek 0xBFFF (busWrite 0xBFFF 0x5A s).state = some 0x5A) ∧
    (let s : State := { base with cfg.kind := .mbc3, cfg.cartRamSize := 0x8000, cart.ramEnable := true, cart.ramBank := 3 }
     s.cart.ramBank.toNat ≤ 3 ∧ (busWrite 0xA000 0x5A s).state.cart.ram = [(0x6000, 0x5A)]) := by decide
/-- A byte of memory and the answer of a port: `(HL)` and forms of `(A)`. -/
theorem test_witness_MemoryLoadsDeliverTheByteRead :
    (∃ u v, Reads { base with regs.h := 0xC1 }.hl { base with regs.h := 0xC1 } v u) ∧
    (∃ u v, Reads { base with regs.h := 0xFF, regs.l := 0x00 }.hl { base with regs.h := 0xFF, regs.l := 0x00 } v u) ∧
    (∃ u v, Reads ((AAddr.high 0x0F).at base) base v u) ∧ (∃ u v, Reads ((AAddr.high 0x3F).at base) base v u) :=
  ⟨⟨_, _, .inl ⟨rfl, rfl⟩⟩, ⟨_, _, .inr ⟨by decide, rfl⟩⟩, ⟨_, _, .inl ⟨rfl, rfl⟩⟩, ⟨_, _, .inr ⟨by decide, rfl⟩⟩⟩
theorem test_witness_StoresWriteOneByte :
    Covered { base with regs.h := 0xC1 }.hl ∧ Covered ((AAddr.high 0xFF).at base) ∧ Covered ((AAddr.abs 0x0000).at base) ∧
    Covered ((AAddr.highC).at { base with regs.c := 0x80 }) := by
  unfold Covered; decide
theorem test_witness_HlMovesAfterTheAccess :
    (∃ u v, Reads { base with regs.h := 0xFF, regs.l := 0xFF }.hl { base with regs.h := 0xFF, regs.l := 0xFF } v u) ∧
    Covered { base with regs.h := 0xFF, regs.l := 0xFF }.hl ∧ Covered { base with regs.h := 0x00, regs.l := 0x00 }.hl :=
  ⟨⟨_, _, .inl ⟨rfl, rfl⟩⟩, by unfold Covered; decide, by unfold Covered; decide⟩
theorem test_witness_StackPointerIsStoredLittleEndian :
    (Covered 0xC100 ∧ Covered (0xC100 + 1)) ∧ (Covered 0xFFFF ∧ Covered (0xFFFF + 1)) := by
  unfold Covered; decide
theorem test_witness_PushStoresThePairBelowTheStack :
    (Covered (base.regs.sp - 1) ∧ Covered (base.regs.sp - 2)) ∧ (Covered (0x0001 - 1) ∧ Covered (0x0001 - 2)) := by
  unfold Covered; decide
theorem test_witness_PopLoadsThePairFromTheStack : ∃ u, Pops 0x1234 stacked u := pops_stacked
theorem test_witness_PushThenPopReproducesTheValue :
    Storage (locate false (0xDFF0#16 - 1)) = true ∧ Storage (locate false (0xDFF0#16 - 2)) = true ∧
    Storage (locate false (0x0000#16 - 1)) = true ∧ Storage (locate false (0x0000#16 - 2)) = true := by decide
/-- Each operand form delivers. The same for the three statements over `AluSrc`. -/
theorem test_witness_AddAndAdcGiveTheExactSum :
    (AluSrc.reg .a).Delivers base 0x00 base ∧ (∃ u v, AluSrc.mem.Delivers { base with regs.h := 0xC1 } v u) ∧
    (AluSrc.imm 0xFF).Delivers base 0xFF base :=
  ⟨⟨by decide, rfl⟩, ⟨_, _, .inl ⟨rfl, rfl⟩⟩, ⟨rfl, rfl⟩⟩
theorem test_witness_SubSbcAndCpGiveTheExactDifference :
    (AluSrc.reg .b).Delivers { base with regs.b := 0xFF } 0xFF { base with regs.b := 0xFF } ∧
    (∃ u v, AluSrc.mem.Delivers { base with regs.h := 0xFF, regs.l := 0x10 } v u) ∧ (AluSrc.imm 0x00).Delivers base 0x00 base :=
  ⟨⟨rfl, rfl⟩, ⟨_, _, .inr ⟨by decide, rfl⟩⟩, ⟨rfl, rfl⟩⟩
theorem test_witness_LogicWorksBitByBit :
    (AluSrc.reg .l).Delivers { base with regs.l := 0x3F } 0x3F { base with regs.l := 0x3F } ∧
    (∃ u v, AluSrc.mem.Delivers { base with regs.h := 0x80 } v u) ∧ (AluSrc.imm 0x38).Delivers base 0x38 base :=
  ⟨⟨rfl, rfl⟩, ⟨_, _, .inl ⟨rfl, rfl⟩⟩, ⟨rfl, rfl⟩⟩
theorem test_witness_IncAndDecKeepTheCarry :
    ∃ u v, Reads { base with regs.h := 0xC1 }.hl { base with regs.h := 0xC1 } v u := ⟨_, _, .inl ⟨rfl, rfl⟩⟩
theorem test_witness_DaaCplScfCcfFollowTheirTables :
    { base with regs.f := 0x30 }.flagN = false ∧ { base with regs.f := 0x40 }.flagN = true := by decide
/-- `99 + 99 + 1` in decimal. -/
theorem test_witness_DaaAfterAdcAddsInDecimal :
    let s : State := { base with regs.a := 0x99, regs.b := 0x99, regs.f := 0x10 }
    s.regs.a.toNat = 16 * 9 + 9 ∧ (s.reg8 .b).toNat = 16 * 9 + 9 ∧ ∃ t, exec (aluInstr .adc (.reg .b)) s = .next t :=
  ⟨by decide, by decide, _, rfl⟩
theorem test_witness_RotatesAndShiftsMoveEveryBit :
    (ShiftOp.rr, Instr.rra, 0x1F#8) ∈
      [(ShiftOp.rlc, Instr.rlca, 0x07#8), (.rrc, .rrca, 0x0F#8), (.rl, .rla, 0x17#8), (.rr, .rra, 0x1F#8)] ∧
    (∃ u v, Reads { base with regs.h := 0xC1 }.hl { base with regs.h := 0xC1 } v u) :=
  ⟨by decide, ⟨_, _, .inl ⟨rfl, rfl⟩⟩⟩
theorem test_witness_BitResAndSetTouchOneBit :
    ∃ u v, Reads { base with regs.h := 0xFE, regs.l := 0x9F }.hl { base with regs.h := 0xFE, regs.l := 0x9F } v u :=
  ⟨_, _, .inl ⟨rfl, rfl⟩⟩
/-- A push that completes, a condition that holds and one that does not. -/
theorem test_witness_CallsPushTheReturnAddress :
    (Covered (base.regs.sp - 1) ∧ Covered (base.regs.sp - 2)) ∧ base.cond .nz = true ∧ base.cond .z = false :=
  ⟨⟨by unfold Covered; decide, by unfold Covered; decide⟩, by decide, by decide⟩
theorem test_witness_ReturnsPopThePc :
    (∃ u, Pops 0x1234 stacked u) ∧ base.cond .nc = true ∧ base.cond .c = false :=
  ⟨pops_stacked, by decide, by decide⟩
theorem test_witness_SystemInstructionsSetTheirBits :
    (∃ t, exec .halt base = .next t) ∧ (∃ t, exec .di base = .next t) ∧ ∃ t, exec .ei base = .next t :=
  ⟨⟨_, rfl⟩, ⟨_, rfl⟩, _, rfl⟩

end Sys2Proof.Tests
end

section
/-! PROOFS. The 8-bit loads, and the loads of a pair and of `SP` that share their form (40_load8.md, 41_load16.md): what
each update of a register gives and leaves alone, what each shared load or store does, and the statements over their
instruction families. -/

namespace Sys2Proof.Machine

/-! ## What a register update gives and what it leaves alone -/

@[simp] theorem reg8_setReg8 (r : Reg8) (v : Byte) (s : State) : (setReg8 r v s).reg8 r = v := by cases r <;> rfl

@[simp] theorem reg16_setReg16 (p : Reg16) (v : Word) (s : State) : (setReg16 p v s).reg16 p = v := by
  cases p
  case sp => rfl
  all_goals exact pair_hi8_lo8 v

@[simp] theorem hl_setHl (v : Word) (s : State) : (setHl v s).hl = v := pair_hi8_lo8 v

theorem regsKept_setReg8 (r : Reg8) (v : Byte) (s : State) : RegsKept [r.name] s (setReg8 r v s) := by
  intro x hx
  cases r <;> cases x <;> first | rfl | exact absurd (List.mem_singleton.2 rfl) hx

theorem regsKept_setReg16 (p : Reg16) (v : Word) (s : State) : RegsKept p.names s (setReg16 p v s) := by
  intro x hx
  cases p <;> cases x <;> first | rfl | exact absurd (by decide) hx

theorem regsKept_setSp (v : Word) (s : State) : RegsKept [.sp] s (setSp v s) := regsKept_setReg16 .sp v s

theorem regsKept_setHl (v : Word) (s : State) : RegsKept [.h, .l] s (setHl v s) := regsKept_setReg16 .hl v s

theorem RegsKept.trans {xs ys : List RegName} {s t u : State} (h : RegsKept xs s t) (h' : RegsKept ys t u) :
    RegsKept (xs ++ ys) s u := fun x hx => by
  rw [List.mem_append, not_or] at hx
  rw [h' x hx.2, h x hx.1]

theorem regOf_congr {s t : State} (h : t.regs = s.regs) (x : RegName) : t.regOf x = s.regOf x := by
  cases x <;> simp only [State.regOf, h]

/-- What is kept is kept from any state with the same register file. -/
theorem RegsKept.of_regs_eq {xs : List RegName} {s t u : State} (h : RegsKept xs u t) (hu : u.regs = s.regs) :
    RegsKept xs s t := fun x hx => (h x hx).trans (regOf_congr hu x)

theorem hl_congr {s t : State} (h : t.regs = s.regs) : t.hl = s.hl := by unfold State.hl; rw [h]

theorem onlyRegsChange_setReg8 (r : Reg8) (v : Byte) (s : State) : OnlyRegsChange s (setReg8 r v s) :=
  onlyRegsChange_of_regs (by cases r <;> rfl)

theorem onlyRegsChange_setReg16 (p : Reg16) (v : Word) (s : State) : OnlyRegsChange s (setReg16 p v s) :=
  onlyRegsChange_of_regs (by cases p <;> rfl)

theorem onlyRegsChange_setSp (v : Word) (s : State) : OnlyRegsChange s (setSp v s) := onlyRegsChange_of_regs rfl

theorem onlyRegsChange_setHl (v : Word) (s : State) : OnlyRegsChange s (setHl v s) := onlyRegsChange_of_regs rfl

theorem OnlyRegsChange.trans {s t u : State} (h : OnlyRegsChange s t) (h' : OnlyRegsChange t u) : OnlyRegsChange s u :=
  ⟨by rw [h'.1, h.1], fun a => (h'.2 a).trans (h.2 a)⟩

/-! ## What each shared load or store does -/

theorem loadImm_effect (dst : Reg8) (n : Byte) (s : State) :
    ∃ t, loadImm dst n s = .next t ∧ t.reg8 dst = n ∧ RegsKept [dst.name] s t ∧ OnlyRegsChange s t :=
  ⟨_, rfl, reg8_setReg8 _ _ _, regsKept_setReg8 _ _ _, onlyRegsChange_setReg8 _ _ _⟩

/-- A register load is the load of the source's value. -/
theorem loadReg_eq_loadImm (dst r : Reg8) (s : State) : loadReg dst r s = loadImm dst (s.reg8 r) s := rfl

theorem loadFrom_reads {a : Word} {s u : State} {v : Byte} (dst : Reg8) (h : Reads a s v u) :
    loadFrom dst a s = .next (setReg8 dst v u) := by
  unfold loadFrom
  rw [busRead_iff.2 h, Res.bind_ok, Res.done_ok]

theorem loadFrom_effect {a : Word} {s u : State} {v : Byte} (dst : Reg8) (h : Reads a s v u) :
    ∃ t, loadFrom dst a s = .next t ∧ t.reg8 dst = v ∧ RegsKept [dst.name] s t ∧ OnlyRegsChange u t :=
  ⟨_, loadFrom_reads dst h, reg8_setReg8 _ _ _, (regsKept_setReg8 _ _ _).of_regs_eq h.regs, onlyRegsChange_setReg8 _ _ _⟩

theorem storeAt_effect {a : Word} (v : Byte) (s : State) (h : Covered a) :
    ∃ t, storeAt a v s = .next t ∧ Stores a v s t :=
  ⟨_, by unfold storeAt; rw [busWrite_covered v s h, Res.done_ok], writeTarget_stores v s h⟩

/-- A read moves no register, so `HL` moves from its old value. -/
theorem loadAMove_reads {s u : State} {v : Byte} (k : Word) (h : Reads s.hl s v u) :
    loadAMove k s = .next (setHl (s.hl + k) (setReg8 .a v u)) := by
  unfold loadAMove
  rw [busRead_iff.2 h, Res.bind_ok, Res.done_ok, hl_congr h.regs]

theorem loadAMove_effect {s u : State} {v : Byte} (k : Word) (h : Reads s.hl s v u) :
    ∃ t, loadAMove k s = .next t ∧ t.regs.a = v ∧ t.hl = s.hl + k ∧ RegsKept [.a, .h, .l] s t ∧ OnlyRegsChange u t :=
  ⟨_, loadAMove_reads k h, rfl, hl_setHl _ _, ((regsKept_setReg8 .a v u).trans (regsKept_setHl _ _)).of_regs_eq h.regs,
    (onlyRegsChange_setReg8 .a v u).trans (onlyRegsChange_setHl _ _)⟩

/-- A write moves no register, so `HL` moves from its old value. -/
theorem storeAMove_stores {s w : State} (k : Word) (h : Stores s.hl s.regs.a s w) :
    storeAMove k s = .next (setHl (s.hl + k) w) := by
  unfold storeAMove
  rw [busWrite_iff.2 h, Res.bind_ok, Res.done_ok, hl_congr h.cpu.1]

theorem storeAMove_effect (k : Word) (s : State) (h : Covered s.hl) :
    ∃ w t, storeAMove k s = .next t ∧ Stores s.hl s.regs.a s w ∧ t.hl = s.hl + k ∧ RegsKept [.h, .l] s t ∧
      OnlyRegsChange w t :=
  have hw := writeTarget_stores s.regs.a s h
  ⟨_, _, storeAMove_stores k hw, hw, hl_setHl _ _, (regsKept_setHl _ _).of_regs_eq hw.cpu.1, onlyRegsChange_setHl _ _⟩

/-- `HL + 1` and `HL + (-1)` are the integer sums modulo `2^16`. -/
theorem add_step_eq_ofInt (w : Word) (up : Bool) :
    w + (if up then 1 else -1) = BitVec.ofInt 16 ((w.toNat : Int) + (if up then 1 else -1)) := by
  rw [BitVec.ofInt_add, BitVec.ofInt_natCast, BitVec.ofNat_toNat, BitVec.setWidth_eq]
  cases up <;> rfl

/-! ## The families: encoding, cost and shared meaning -/

theorem ldRR_form (dst r : Reg8) (s : State) :
    encode (ldRR dst r) = [0b01#2 ++ dst.code ++ r.code] ∧ cost (ldRR dst r) s = 4 := by
  cases dst <;> cases r <;> exact ⟨rfl, rfl⟩

theorem exec_ldRR (dst r : Reg8) (s : State) : exec (ldRR dst r) s = loadReg dst r s := by
  cases dst <;> cases r <;> rfl

theorem ldRImm_form (dst : Reg8) (n : Byte) (s : State) :
    encode (ldRImm dst n) = [0b00#2 ++ dst.code ++ 0b110#3, n] ∧ cost (ldRImm dst n) s = 8 := by
  cases dst <;> exact ⟨rfl, rfl⟩

theorem exec_ldRImm (dst : Reg8) (n : Byte) (s : State) : exec (ldRImm dst n) s = loadImm dst n s := by
  cases dst <;> rfl

theorem ldPair_form (p : Reg16) (nn : Word) (s : State) :
    encode (ldPair p nn) = [0b00#2 ++ p.code ++ 0b0001#4, lo8 nn, hi8 nn] ∧ cost (ldPair p nn) s = 12 := by
  cases p <;> exact ⟨rfl, rfl⟩

theorem exec_ldPair (p : Reg16) (nn : Word) (s : State) : exec (ldPair p nn) s = .next (setReg16 p nn s) := by
  cases p <;> rfl

theorem ldRHl_form (dst : Reg8) (s : State) :
    encode (ldRHl dst) = [0b01#2 ++ dst.code ++ 0b110#3] ∧ cost (ldRHl dst) s = 8 := by
  cases dst <;> exact ⟨rfl, rfl⟩

theorem exec_ldRHl (dst : Reg8) (s : State) : exec (ldRHl dst) s = loadFrom dst s.hl s := by
  cases dst <;> rfl

theorem exec_ldA (x : AAddr) (s : State) : exec (ldA x) s = loadFrom .a (x.at s) s := by
  cases x <;> rfl

theorem ldHlR_form (r : Reg8) (s : State) :
    encode (ldHlR r) = [0b01110#5 ++ r.code] ∧ cost (ldHlR r) s = 8 := by
  cases r <;> exact ⟨rfl, rfl⟩

theorem exec_ldHlR (r : Reg8) (s : State) : exec (ldHlR r) s = storeAt s.hl (s.reg8 r) s := by
  cases r <;> rfl

theorem exec_stA (x : AAddr) (s : State) : exec (stA x) s = storeAt (x.at s) s.regs.a s := by
  cases x <;> rfl

theorem exec_ldAMove (up : Bool) (s : State) : exec (ldAMove up) s = loadAMove (if up then 1 else -1) s := by
  cases up <;> rfl

theorem exec_stAMove (up : Bool) (s : State) : exec (stAMove up) s = storeAMove (if up then 1 else -1) s := by
  cases up <;> rfl

/-! ## The statements -/

/-- Settles O39: each form is one update of the destination, whose laws say what it holds and what it leaves. -/
theorem registerAndPairLoads : Obligations.RegisterAndPairLoads := by
  refine ⟨fun dst r n s => ⟨?_, ?_⟩, fun p nn s => ⟨?_, ?_⟩⟩
  · obtain ⟨henc, hcost⟩ := ldRR_form dst r s
    rw [exec_ldRR, loadReg_eq_loadImm]
    exact ⟨henc, hcost, loadImm_effect dst (s.reg8 r) s⟩
  · obtain ⟨henc, hcost⟩ := ldRImm_form dst n s
    rw [exec_ldRImm]
    exact ⟨henc, hcost, loadImm_effect dst n s⟩
  · obtain ⟨henc, hcost⟩ := ldPair_form p nn s
    refine ⟨henc, hcost, setReg16 p nn s, exec_ldPair p nn s, reg16_setReg16 p nn s, regsKept_setReg16 p nn s,
      onlyRegsChange_setReg16 p nn s, ?_, ?_, ?_⟩
    all_goals
      rintro rfl
      exact ⟨rfl, rfl⟩
  · exact ⟨rfl, rfl, setSp s.hl s, rfl, rfl, regsKept_setSp _ s, onlyRegsChange_setSp _ s⟩

/-- Settles O40: every form is one read at its address, then one register update. -/
theorem memoryLoadsDeliverTheByteRead : Obligations.MemoryLoadsDeliverTheByteRead := by
  refine fun dst x s u v => ⟨?_, ?_, fun h => ?_⟩
  · obtain ⟨henc, hcost⟩ := ldRHl_form dst s
    rw [exec_ldRHl]
    exact ⟨henc, hcost, loadFrom_effect dst⟩
  · cases x <;> exact ⟨rfl, rfl⟩
  · rw [exec_ldA]
    exact loadFrom_effect .a h

/-- Settles O41: every form is one bus write at its address. -/
theorem storesWriteOneByte : Obligations.StoresWriteOneByte := by
  refine fun r n x s => ⟨?_, ⟨rfl, rfl, storeAt_effect n s⟩, ?_, fun h => ?_⟩
  · obtain ⟨henc, hcost⟩ := ldHlR_form r s
    rw [exec_ldHlR]
    exact ⟨henc, hcost, storeAt_effect (s.reg8 r) s⟩
  · cases x <;> exact ⟨rfl, rfl⟩
  · rw [exec_stA]
    exact storeAt_effect s.regs.a s h

/-- Settles O42: the access at the old `HL`, then the move of `HL`. -/
theorem hlMovesAfterTheAccess : Obligations.HlMovesAfterTheAccess := by
  intro up s u v moved
  have hmoved : moved = s.hl + (if up then 1 else -1) := (add_step_eq_ofInt s.hl up).symm
  rw [exec_ldAMove, exec_stAMove, hmoved]
  refine ⟨⟨?_, ?_, loadAMove_effect _⟩, ?_, ?_, storeAMove_effect _ s⟩
  all_goals cases up <;> rfl

end Sys2Proof.Machine
end

section
/-! PROOFS. The 16-bit loads that go through memory, the flags or the stack, and `ADD SP,e` (41_load16.md R181, R183, R185;
43_alu16.md R243): what the flag write and the write of a stack pair give and leave alone, what each shared operation does,
and the statements over their instructions. -/

namespace Sys2Proof.Machine

/-! ## The halves of a word, cut by truncation -/

theorem setWidth_eq_lo8 (v : Word) : v.setWidth 8 = lo8 v := rfl

theorem setWidth_shiftRight_eq_hi8 (v : Word) : (v >>> 8).setWidth 8 = hi8 v := BitVec.eq_of_toNat_eq rfl

/-! ## The flags and a stack pair, written -/

theorem flagsAre_setFlags (z n h c : Bool) (s : State) : FlagsAre z n h c (setFlags z n h c s) := flagsAre_of_pack rfl

theorem regsKept_setFlags (z n h c : Bool) (s : State) : RegsKept [.f] s (setFlags z n h c s) := by
  intro x hx
  cases x
  case f => exact absurd (List.mem_singleton.2 rfl) hx
  all_goals rfl

theorem onlyRegsChange_setFlags (z n h c : Bool) (s : State) : OnlyRegsChange s (setFlags z n h c s) :=
  onlyRegsChange_of_regs rfl

@[simp] theorem setReg16Stk_regs_sp (p : Reg16Stk) (v : Word) (s : State) : (setReg16Stk p v s).regs.sp = s.regs.sp := by
  cases p <;> rfl

theorem regsKept_setReg16Stk (p : Reg16Stk) (v : Word) (s : State) : RegsKept p.names s (setReg16Stk p v s) := by
  cases p
  case bc => exact regsKept_setReg16 .bc v s
  case de => exact regsKept_setReg16 .de v s
  case hl => exact regsKept_setReg16 .hl v s
  case af =>
    intro x hx
    cases x
    case a | f => exact absurd (by decide) hx
    all_goals rfl

theorem onlyRegsChange_setReg16Stk (p : Reg16Stk) (v : Word) (s : State) : OnlyRegsChange s (setReg16Stk p v s) :=
  onlyRegsChange_of_regs (by cases p <;> rfl)

/-! ## What the shared operations do -/

/-- The two stores of a word, low byte first, complete a 16-bit bus write. -/
theorem busWrite16_stores {a v : Word} {s w t : State} (hlo : Stores a (lo8 v) s w) (hhi : Stores (a + 1) (hi8 v) w t) :
    busWrite16 a v s = .ok () t := by
  unfold busWrite16
  rw [busWrite_iff.2 hlo, Res.bind_ok, busWrite_iff.2 hhi]

theorem storeSp_effect (nn : Word) (s : State) (hlo : Covered nn) (hhi : Covered (nn + 1)) :
    ∃ w t, storeSp nn s = .next t ∧ Stores nn (lo8 s.regs.sp) s w ∧ Stores (nn + 1) (hi8 s.regs.sp) w t :=
  have hw := writeTarget_stores (lo8 s.regs.sp) s hlo
  have ht := writeTarget_stores (hi8 s.regs.sp) _ hhi
  ⟨_, _, by unfold storeSp; rw [busWrite16_stores hw ht, Res.done_ok], hw, ht⟩

theorem loadHlSp_effect (e : Byte) (s : State) :
    let o := addSpE s.regs.sp e
    ∃ t, loadHlSp e s = .next t ∧ t.hl = o.res ∧ FlagsAre false false o.h o.c t ∧ RegsKept [.h, .l, .f] s t ∧
      OnlyRegsChange s t :=
  ⟨_, rfl, hl_setHl _ s, flagsAre_setFlags _ _ _ _ _, (regsKept_setHl _ s).trans (regsKept_setFlags _ _ _ _ _),
    (onlyRegsChange_setHl _ s).trans (onlyRegsChange_setFlags _ _ _ _ _)⟩

theorem addSp_effect (e : Byte) (s : State) :
    let o := addSpE s.regs.sp e
    ∃ t, addSp e s = .next t ∧ t.regs.sp = o.res ∧ FlagsAre false false o.h o.c t ∧ RegsKept [.sp, .f] s t ∧
      OnlyRegsChange s t :=
  ⟨_, rfl, rfl, flagsAre_setFlags _ _ _ _ _, (regsKept_setSp _ s).trans (regsKept_setFlags _ _ _ _ _),
    (onlyRegsChange_setSp _ s).trans (onlyRegsChange_setFlags _ _ _ _ _)⟩

theorem Pops.regs {v : Word} {s u : State} (h : Pops v s u) : u.regs = { s.regs with sp := s.regs.sp + 2 } := by
  rw [h.frame]

theorem Pops.regsKept {v : Word} {s u : State} (h : Pops v s u) : RegsKept [.sp] s u :=
  fun x hx => (regOf_congr (s := setSp (s.regs.sp + 2) s) h.regs x).trans (regsKept_setSp _ s x hx)

theorem popPair_pops (p : Reg16Stk) {v : Word} {s u : State} (h : Pops v s u) :
    popPair p s = .next (setReg16Stk p v u) := by
  unfold popPair
  rw [pop16_iff.2 h, Res.bind_ok, Res.done_ok]

/-! ## The family of `POP` -/

theorem popOf_form (p : Reg16Stk) (s : State) :
    encode (popOf p) = [0b11#2 ++ p.code ++ 0b0001#4] ∧ cost (popOf p) s = 12 := by
  cases p <;> exact ⟨rfl, rfl⟩

theorem exec_popOf (p : Reg16Stk) (s : State) : exec (popOf p) s = popPair p s := by
  cases p <;> rfl

/-! ## The statements -/

/-- Settles O43: the bus write of `SP` is its two stores; the halves the statement cuts from `SP` are `lo8` and `hi8`. -/
theorem stackPointerIsStoredLittleEndian : Obligations.StackPointerIsStoredLittleEndian := by
  intro nn s
  rw [setWidth_eq_lo8, setWidth_shiftRight_eq_hi8]
  exact ⟨rfl, rfl, storeSp_effect nn s⟩

/-- Settles O44: the sum is the addition of the sign-extended byte, the carries are those of `addSpE`. -/
theorem stackPointerPlusSignedByte : Obligations.StackPointerPlusSignedByte := by
  intro e s sum half carry
  have hsum : sum = (addSpE s.regs.sp e).res := (add_sext16 s.regs.sp e).symm
  rw [hsum]
  exact ⟨⟨rfl, rfl, loadHlSp_effect e s⟩, rfl, rfl, addSp_effect e s⟩

/-- Settles O46: after the two reads, whose only trace in the registers is `SP`, one write of the pair. -/
theorem popLoadsThePairFromTheStack : Obligations.PopLoadsThePairFromTheStack := by
  intro p v s u
  obtain ⟨henc, hcost⟩ := popOf_form p s
  rw [exec_popOf]
  refine ⟨henc, hcost, fun h => ⟨setReg16Stk p v u, popPair_pops p h, onlyRegsChange_setReg16Stk p v u, ?_,
    h.regsKept.trans (regsKept_setReg16Stk p v u), ?_⟩⟩
  · rw [setReg16Stk_regs_sp, h.regs]
  · cases p
    case af => exact ⟨rfl, flagsAre_of_mask rfl⟩
    all_goals exact ⟨rfl, rfl⟩

end Sys2Proof.Machine
end

section
/-! PROOFS. 8-bit arithmetic and logic (42_alu8.md): what the write of a result with its flags gives and leaves alone, what
each family's shared meaning does, what the pure functions compute in numbers, and the statements over their instructions. -/

namespace Sys2Proof.Machine

/-! ## A result and its flags, written -/

/-- The result `o` has been written to `r`: the register and the four flags hold it, every other register is as in `s`, and
everything but the register file is as in `u`, the state after the operand was read. -/
structure ResultIn (r : Reg8) (o : AluOut) (s u t : State) : Prop where
  res   : t.reg8 r = o.res
  flags : FlagsAre o.z o.n o.h o.c t
  kept  : RegsKept [r.name, .f] s t
  only  : OnlyRegsChange u t

@[simp] theorem reg8_setFlags (r : Reg8) (z n h c : Bool) (s : State) : (setFlags z n h c s).reg8 r = s.reg8 r := by
  cases r <;> rfl

theorem setReg8_setFlags_comm (r : Reg8) (v : Byte) (z n h c : Bool) (s : State) :
    setReg8 r v (setFlags z n h c s) = setFlags z n h c (setReg8 r v s) := by
  cases r <;> rfl

theorem resultIn_setFlags_setReg8 (r : Reg8) (o : AluOut) (s : State) :
    ResultIn r o s s (setFlags o.z o.n o.h o.c (setReg8 r o.res s)) where
  res := by rw [reg8_setFlags, reg8_setReg8]
  flags := flagsAre_setFlags _ _ _ _ _
  kept := (regsKept_setReg8 r _ s).trans (regsKept_setFlags _ _ _ _ _)
  only := (onlyRegsChange_setReg8 r _ s).trans (onlyRegsChange_setFlags _ _ _ _ _)

/-- The model writes the flags first, which is the same. -/
theorem resultIn_setReg8_setAluFlags (r : Reg8) (o : AluOut) (s : State) :
    ResultIn r o s s (setReg8 r o.res (setAluFlags o s)) := by
  unfold setAluFlags
  rw [setReg8_setFlags_comm]
  exact resultIn_setFlags_setReg8 r o s

theorem ResultIn.of_regs_eq {r : Reg8} {o : AluOut} {s u t : State} (h : ResultIn r o u u t) (hu : u.regs = s.regs) :
    ResultIn r o s u t :=
  ⟨h.res, h.flags, h.kept.of_regs_eq hu, h.only⟩

/-- Where `Z` tests the result, it tests the register that took it. -/
theorem ResultIn.flagsAre {r : Reg8} {o : AluOut} {s u t : State} (h : ResultIn r o s u t)
    (hz : o.z = decide (o.res = 0)) : FlagsAre (decide (t.reg8 r = 0)) o.n o.h o.c t := by
  rw [h.res, ← hz]
  exact h.flags

theorem ResultIn.flagC {r : Reg8} {o : AluOut} {s u t : State} (h : ResultIn r o s u t) : t.flagC = o.c := by
  obtain ⟨-, -, -, hc, -⟩ := h.flags
  exact hc

theorem flagC_congr {s t : State} (h : t.regs = s.regs) : t.flagC = s.flagC := by unfold State.flagC; rw [h]

/-- A write of the four flags alone. -/
theorem setFlags_effect (z n h c : Bool) (s : State) :
    FlagsAre z n h c (setFlags z n h c s) ∧ RegsKept [.f] s (setFlags z n h c s) ∧
      OnlyRegsChange s (setFlags z n h c s) :=
  ⟨flagsAre_setFlags z n h c s, regsKept_setFlags z n h c s, onlyRegsChange_setFlags z n h c s⟩

/-! ## The ALU family -/

theorem aluForm (k : AluOp) (x : AluSrc) (s : State) : AluForm k x s := by
  cases x with
  | reg r => cases k <;> cases r <;> exact ⟨rfl, rfl⟩
  | mem => cases k <;> exact ⟨rfl, rfl⟩
  | imm n => cases k <;> exact ⟨rfl, rfl⟩

theorem exec_aluInstr_reg (k : AluOp) (r : Reg8) (s : State) : exec (aluInstr k (.reg r)) s = aluReg k r s := by
  cases k <;> cases r <;> rfl

theorem exec_aluInstr_mem (k : AluOp) (s : State) : exec (aluInstr k .mem) s = aluMem k s := by
  cases k <;> rfl

theorem exec_aluInstr_imm (k : AluOp) (n : Byte) (s : State) : exec (aluInstr k (.imm n)) s = aluImm k n s := by
  cases k <;> rfl

theorem aluMem_reads {s u : State} {b : Byte} (k : AluOp) (h : Reads s.hl s b u) :
    aluMem k s = .next (aluApply k b u) := by
  unfold aluMem
  rw [busRead_iff.2 h, Res.bind_ok, Res.done_ok]

theorem AluSrc.Delivers.regs {x : AluSrc} {s u : State} {b : Byte} (h : x.Delivers s b u) : u.regs = s.regs := by
  cases x with
  | reg r => rw [h.2]
  | mem => exact Reads.regs h
  | imm n => rw [h.2]

/-- Whatever the form, the operation is applied to the byte the operand delivers. -/
theorem exec_aluInstr {x : AluSrc} {s u : State} {b : Byte} (k : AluOp) (h : x.Delivers s b u) :
    exec (aluInstr k x) s = .next (aluApply k b u) := by
  cases x with
  | reg r =>
    obtain ⟨rfl, rfl⟩ := h
    exact exec_aluInstr_reg k r u
  | mem => rw [exec_aluInstr_mem, aluMem_reads k h]
  | imm n =>
    obtain ⟨rfl, rfl⟩ := h
    exact exec_aluInstr_imm k b u

theorem resultIn_aluApply {k : AluOp} (hk : k ≠ .cp) (b : Byte) (s : State) :
    ResultIn .a (aluOut k s.regs.a b s.flagC) s s (aluApply k b s) := by
  unfold aluApply
  rw [if_neg hk]
  exact resultIn_setReg8_setAluFlags .a _ s

theorem alu_effect {k : AluOp} (hk : k ≠ .cp) {x : AluSrc} {s u : State} {b : Byte} (h : x.Delivers s b u) :
    ∃ t, exec (aluInstr k x) s = .next t ∧ ResultIn .a (aluOut k s.regs.a b s.flagC) s u t := by
  refine ⟨aluApply k b u, exec_aluInstr k h, ?_⟩
  rw [← h.regs, ← flagC_congr h.regs]
  exact (resultIn_aluApply hk b u).of_regs_eq h.regs

/-- `CP` writes the flags of `SUB` and nothing else. -/
theorem cp_effect {x : AluSrc} {s u : State} {b : Byte} (h : x.Delivers s b u) :
    let o := sub8 s.regs.a b false
    ∃ t, exec (aluInstr .cp x) s = .next t ∧ FlagsAre o.z o.n o.h o.c t ∧ RegsKept [.f] s t ∧ OnlyRegsChange u t := by
  intro o
  obtain ⟨hflags, hkept, honly⟩ := setFlags_effect o.z o.n o.h o.c u
  refine ⟨setFlags o.z o.n o.h o.c u, ?_, hflags, hkept.of_regs_eq h.regs, honly⟩
  have ho : o = aluOut .cp u.regs.a b u.flagC := by rw [h.regs]; rfl
  rw [ho]
  exact exec_aluInstr .cp h

/-! ## Sums, differences and bits -/

theorem ResultIn.exactSum {a b : Byte} {cin : Bool} {s u t : State} (h : ResultIn .a (add8 a b cin) s u t) :
    t.regs.a.toNat + 256 * t.flagC.toNat = a.toNat + b.toNat + cin.toNat ∧
      FlagsAre (decide (t.regs.a = 0)) false (decide (0x0F < a.toNat % 16 + b.toNat % 16 + cin.toNat))
        (decide (0xFF < a.toNat + b.toNat + cin.toNat)) t ∧ RegsKept [.a, .f] s t ∧ OnlyRegsChange u t := by
  have hres : t.regs.a = (add8 a b cin).res := h.res
  refine ⟨?_, h.flagsAre (add8_z a b cin), h.kept, h.only⟩
  rw [hres, h.flagC]
  exact add8_sum a b cin

theorem ResultIn.exactDifference {a b : Byte} {cin : Bool} {s u t : State} (h : ResultIn .a (sub8 a b cin) s u t) :
    t.regs.a.toNat + b.toNat + cin.toNat = a.toNat + 256 * t.flagC.toNat ∧
      FlagsAre (decide (t.regs.a = 0)) true (decide (a.toNat % 16 < b.toNat % 16 + cin.toNat))
        (decide (a.toNat < b.toNat + cin.toNat)) t ∧ RegsKept [.a, .f] s t ∧ OnlyRegsChange u t := by
  have hres : t.regs.a = (sub8 a b cin).res := h.res
  refine ⟨?_, h.flagsAre rfl, h.kept, h.only⟩
  rw [hres, h.flagC]
  exact sub8_diff a b cin

/-- `SUB` and `CP` give zero exactly for equal bytes. -/
theorem sub8_z_eq_decide (a b : Byte) : (sub8 a b false).z = decide (a = b) := by
  have hdiff := sub8_diff a b false
  rw [Bool.toNat_false, Nat.add_zero] at hdiff
  have hz : (sub8 a b false).z = decide ((sub8 a b false).res = 0#8) := rfl
  rw [hz, decide_eq_decide, BitVec.toNat_eq, BitVec.toNat_eq, BitVec.toNat_zero]
  omega

theorem ResultIn.bits {f : Bool → Bool → Bool} {a b : Byte} {o : AluOut} {s u t : State} (h : ResultIn .a o s u t)
    (hz : o.z = decide (o.res = 0)) (hbits : ∀ i, bitAt o.res i = f (bitAt a i) (bitAt b i)) :
    (∀ i, i < 8 → bitAt t.regs.a i = f (bitAt a i) (bitAt b i)) ∧
      FlagsAre (decide (t.regs.a = 0)) o.n o.h o.c t ∧ RegsKept [.a, .f] s t ∧ OnlyRegsChange u t := by
  have hres : t.regs.a = o.res := h.res
  refine ⟨fun i _ => ?_, h.flagsAre hz, h.kept, h.only⟩
  rw [hres, hbits]

/-! ## Increment and decrement -/

theorem toNat_and_0F (v : Byte) : (v &&& 0x0F#8).toNat = v.toNat % 16 := by
  rw [BitVec.toNat_and]
  exact Nat.and_two_pow_sub_one_eq_mod v.toNat 4

theorem inc8_h (v : Byte) (c : Bool) : (inc8 v c).h = decide (v.toNat % 16 = 15) := by
  have hh : (inc8 v c).h = decide (v &&& 0x0F#8 = 0x0F#8) := rfl
  rw [hh, decide_eq_decide, BitVec.toNat_eq, toNat_and_0F]
  rfl

theorem dec8_h (v : Byte) (c : Bool) : (dec8 v c).h = decide (v.toNat % 16 = 0) := by
  have hh : (dec8 v c).h = decide (v &&& 0x0F#8 = 0x00#8) := rfl
  rw [hh, decide_eq_decide, BitVec.toNat_eq, toNat_and_0F]
  rfl

/-- The one byte whose increment is zero. -/
theorem inc8_z (v : Byte) (c : Bool) : (inc8 v c).z = decide (v = 0xFF#8) := by
  have hz : (inc8 v c).z = decide (v + 1 = 0#8) := rfl
  rw [hz, decide_eq_decide]
  bv_omega

/-- The one byte whose decrement is zero. -/
theorem dec8_z (v : Byte) (c : Bool) : (dec8 v c).z = decide (v = 0x01#8) := by
  have hz : (dec8 v c).z = decide (v - 1 = 0#8) := rfl
  rw [hz, decide_eq_decide]
  bv_omega

theorem incOf_form (r : Reg8) (s : State) :
    encode (incOf r) = [0b00#2 ++ r.code ++ 0b100#3] ∧ cost (incOf r) s = 4 := by
  cases r <;> exact ⟨rfl, rfl⟩

theorem exec_incOf (r : Reg8) (s : State) : exec (incOf r) s = incReg r s := by cases r <;> rfl

theorem decOf_form (r : Reg8) (s : State) :
    encode (decOf r) = [0b00#2 ++ r.code ++ 0b101#3] ∧ cost (decOf r) s = 4 := by
  cases r <;> exact ⟨rfl, rfl⟩

theorem exec_decOf (r : Reg8) (s : State) : exec (decOf r) s = decReg r s := by cases r <;> rfl

theorem incReg_effect (r : Reg8) (s : State) :
    ∃ t, incReg r s = .next t ∧ (t.reg8 r).toNat = ((s.reg8 r).toNat + 1) % 256 ∧
      FlagsAre (decide (t.reg8 r = 0)) false (decide ((s.reg8 r).toNat % 16 = 15)) s.flagC t ∧
      RegsKept [r.name, .f] s t ∧ OnlyRegsChange s t := by
  have ht := resultIn_setReg8_setAluFlags r (inc8 (s.reg8 r) s.flagC) s
  refine ⟨_, rfl, ?_, ?_, ht.kept, ht.only⟩
  · rw [ht.res]
    exact BitVec.toNat_add _ _
  · rw [← inc8_h _ s.flagC]
    exact ht.flagsAre rfl

theorem decReg_effect (r : Reg8) (s : State) :
    ∃ t, decReg r s = .next t ∧ (t.reg8 r).toNat = ((s.reg8 r).toNat + 255) % 256 ∧
      FlagsAre (decide (t.reg8 r = 0)) true (decide ((s.reg8 r).toNat % 16 = 0)) s.flagC t ∧
      RegsKept [r.name, .f] s t ∧ OnlyRegsChange s t := by
  have ht := resultIn_setReg8_setAluFlags r (dec8 (s.reg8 r) s.flagC) s
  refine ⟨_, rfl, ?_, ?_, ht.kept, ht.only⟩
  · rw [ht.res, Nat.add_comm]
    exact BitVec.toNat_sub _ _
  · rw [← dec8_h _ s.flagC]
    exact ht.flagsAre rfl

/-- What `INC (HL)` and `DEC (HL)` share: one read and one write of the byte at `HL`, then the flags of the result. -/
def modifyMem (f : Byte → Bool → AluOut) (s : State) : Exec :=
  ((busRead s.hl s).bind fun b s =>
    (busWrite s.hl (f b s.flagC).res s).bind fun _ s' => .ok () (setAluFlags (f b s.flagC) s')).done

theorem incMem_eq_modifyMem (s : State) : incMem s = modifyMem inc8 s := rfl

theorem decMem_eq_modifyMem (s : State) : decMem s = modifyMem dec8 s := rfl

/-- The read moves no register, so the write is at the same address and the old carry is still in `F`. -/
theorem modifyMem_reads {s u w : State} {b : Byte} (f : Byte → Bool → AluOut) (h : Reads s.hl s b u)
    (hw : Stores s.hl (f b s.flagC).res u w) : modifyMem f s = .next (setAluFlags (f b s.flagC) w) := by
  unfold modifyMem
  rw [busRead_iff.2 h, Res.bind_ok, hl_congr h.regs, flagC_congr h.regs, busWrite_iff.2 hw, Res.bind_ok, Res.done_ok]

theorem modifyMem_effect {s u : State} {b : Byte} (f : Byte → Bool → AluOut) (h : Reads s.hl s b u) :
    let o := f b s.flagC
    ∃ w t, modifyMem f s = .next t ∧ Stores s.hl o.res u w ∧ FlagsAre o.z o.n o.h o.c t ∧ RegsKept [.f] s t ∧
      OnlyRegsChange w t := by
  intro o
  have hw := writeTarget_stores o.res u h.covered
  obtain ⟨hflags, hkept, honly⟩ := setFlags_effect o.z o.n o.h o.c (writeTarget (locate false s.hl) o.res u)
  exact ⟨_, _, modifyMem_reads f h hw, hw, hflags, hkept.of_regs_eq (hw.cpu.1.trans h.regs), honly⟩

theorem incMem_effect {s u : State} {b : Byte} (h : Reads s.hl s b u) :
    ∃ w t, incMem s = .next t ∧ Stores s.hl (b + 1) u w ∧
      FlagsAre (decide (b = 0xFF#8)) false (decide (b.toNat % 16 = 15)) s.flagC t ∧ RegsKept [.f] s t ∧
      OnlyRegsChange w t := by
  rw [incMem_eq_modifyMem, ← inc8_z b s.flagC, ← inc8_h b s.flagC]
  exact modifyMem_effect inc8 h

theorem decMem_effect {s u : State} {b : Byte} (h : Reads s.hl s b u) :
    ∃ w t, decMem s = .next t ∧ Stores s.hl (b - 1) u w ∧
      FlagsAre (decide (b = 0x01#8)) true (decide (b.toNat % 16 = 0)) s.flagC t ∧ RegsKept [.f] s t ∧
      OnlyRegsChange w t := by
  rw [decMem_eq_modifyMem, ← dec8_z b s.flagC, ← dec8_h b s.flagC]
  exact modifyMem_effect dec8 h

/-! ## Decimal adjustment -/

/-- The two corrections share no bit, so their disjunction is their sum. -/
theorem toNat_daaCorrection (low high : Bool) :
    ((if low then 0x06#8 else 0#8) ||| (if high then 0x60#8 else 0#8)).toNat =
      (if low then 0x06 else 0) + (if high then 0x60 else 0) := by
  cases low <;> cases high <;> rfl

theorem daa8_add_res (a : Byte) (h c : Bool) :
    (daa8 a false h c).res.toNat =
      (a.toNat + (if h = true ∨ 0x09 < a.toNat % 16 then 0x06 else 0) +
        (if c = true ∨ 0x99 < a.toNat then 0x60 else 0)) % 256 := by
  unfold daa8
  rw [if_neg Bool.false_ne_true, BitVec.toNat_add, toNat_daaCorrection, ← Nat.add_assoc]
  simp only [Bool.or_eq_true, decide_eq_true_eq, Nat.reducePow]

theorem daa8_sub_res (a : Byte) (h c : Bool) :
    (daa8 a true h c).res.toNat = (a.toNat + 256 - (if h then 0x06 else 0) - (if c then 0x60 else 0)) % 256 := by
  unfold daa8
  rw [if_pos rfl, BitVec.toNat_sub, toNat_daaCorrection]
  split <;> split <;> congr 1 <;> omega

theorem decimalAdjust_effect (s : State) :
    ∃ t, decimalAdjust s = .next t ∧ ResultIn .a (daa8 s.regs.a s.flagN s.flagH s.flagC) s s t :=
  ⟨_, rfl, resultIn_setReg8_setAluFlags .a _ s⟩

/-! ## The complement -/

theorem complementA_effect (s : State) :
    ∃ t, complementA s = .next t ∧ t.regs.a.toNat = 255 - s.regs.a.toNat ∧ FlagsAre s.flagZ true true s.flagC t ∧
      RegsKept [.a, .f] s t ∧ OnlyRegsChange s t :=
  have ht := resultIn_setFlags_setReg8 .a ⟨~~~s.regs.a, s.flagZ, true, true, s.flagC⟩ s
  ⟨_, rfl, (congrArg BitVec.toNat ht.res).trans BitVec.toNat_not, ht.flags, ht.kept, ht.only⟩

/-! ## The statements -/

/-- Settles O48: both are `Add8`, `ADD` with no carry in, on the byte the operand delivers. -/
theorem addAndAdcGiveTheExactSum : Obligations.AddAndAdcGiveTheExactSum := by
  refine fun x s u b => ⟨aluForm _ x s, aluForm _ x s, fun h => ⟨?_, ?_⟩⟩
  · obtain ⟨t, hexec, ht⟩ := alu_effect (k := .add) (by decide) h
    exact ⟨t, hexec, ht.exactSum⟩
  · obtain ⟨t, hexec, ht⟩ := alu_effect (k := .adc) (by decide) h
    exact ⟨t, hexec, ht.exactSum⟩

/-- Settles O49: `SUB` and `SBC` are `Sub8` on the byte the operand delivers, `CP` its flags alone. -/
theorem subSbcAndCpGiveTheExactDifference : Obligations.SubSbcAndCpGiveTheExactDifference := by
  refine fun x s u b => ⟨aluForm _ x s, aluForm _ x s, aluForm _ x s, fun h => ⟨?_, ?_, ?_⟩⟩
  · obtain ⟨t, hexec, ht⟩ := alu_effect (k := .sub) (by decide) h
    exact ⟨t, hexec, ht.exactDifference⟩
  · obtain ⟨t, hexec, ht⟩ := alu_effect (k := .sbc) (by decide) h
    exact ⟨t, hexec, ht.exactDifference⟩
  · rw [← sub8_z_eq_decide]
    exact cp_effect h

/-- Settles O50: each operation acts on every bit, and `Z` tests its result. -/
theorem logicWorksBitByBit : Obligations.LogicWorksBitByBit := by
  refine fun x s u b => ⟨aluForm _ x s, aluForm _ x s, aluForm _ x s, fun h => ⟨?_, ?_, ?_⟩⟩
  · obtain ⟨t, hexec, ht⟩ := alu_effect (k := .and) (by decide) h
    exact ⟨t, hexec, ht.bits (f := and) rfl fun i => BitVec.getLsbD_and⟩
  · obtain ⟨t, hexec, ht⟩ := alu_effect (k := .xor) (by decide) h
    exact ⟨t, hexec, ht.bits (f := bne) rfl fun i => BitVec.getLsbD_xor⟩
  · obtain ⟨t, hexec, ht⟩ := alu_effect (k := .or) (by decide) h
    exact ⟨t, hexec, ht.bits (f := or) rfl fun i => BitVec.getLsbD_or⟩

/-- Settles O51: a register takes its result with the flags; `(HL)` is read, then written at the same address. -/
theorem incAndDecKeepTheCarry : Obligations.IncAndDecKeepTheCarry := by
  refine ⟨fun r s => ⟨?_, ?_⟩, fun s u b => ⟨⟨rfl, rfl, incMem_effect⟩, rfl, rfl, decMem_effect⟩⟩
  · obtain ⟨henc, hcost⟩ := incOf_form r s
    rw [exec_incOf]
    exact ⟨henc, hcost, incReg_effect r s⟩
  · obtain ⟨henc, hcost⟩ := decOf_form r s
    rw [exec_decOf]
    exact ⟨henc, hcost, decReg_effect r s⟩

/-- Settles O52: `DAA` by `N`, the sum or difference of its two corrections; the others by the flags they write. -/
theorem daaCplScfCcfFollowTheirTables : Obligations.DaaCplScfCcfFollowTheirTables := by
  refine ⟨fun s => ⟨rfl, rfl, ?_⟩, fun s =>
    ⟨⟨rfl, rfl, complementA_effect s⟩, ⟨rfl, rfl, _, rfl, setFlags_effect _ _ _ _ s⟩, rfl, rfl, _, rfl, setFlags_effect _ _ _ _ s⟩⟩
  obtain ⟨t, hexec, ht⟩ := decimalAdjust_effect s
  refine ⟨t, hexec, ht.kept, ht.only, fun hn => ?_, fun hn => ?_⟩
  · rw [hn] at ht
    exact ⟨(congrArg BitVec.toNat ht.res).trans (daa8_add_res _ _ _), ht.flagsAre rfl⟩
  · rw [hn] at ht
    exact ⟨(congrArg BitVec.toNat ht.res).trans (daa8_sub_res _ _ _), ht.flagsAre rfl⟩

end Sys2Proof.Machine
end

section
/-! PROOFS. 16-bit arithmetic on the pairs (43_alu16.md R240 to R242): the result of the addition in numbers, what each
shared operation does, and the statement over its instructions. -/

namespace Sys2Proof.Machine

/-! ## What the shared operations do -/

theorem toNat_add16_res (a b : Word) : (add16 a b).res.toNat = (a.toNat + b.toNat) % 65536 := BitVec.toNat_add a b

theorem addHl_effect (p : Reg16) (s : State) :
    ∃ t, addHl p s = .next t ∧ t.hl.toNat = (s.hl.toNat + (s.reg16 p).toNat) % 65536 ∧
      FlagsAre s.flagZ false (decide (0x0FFF < s.hl.toNat % 4096 + (s.reg16 p).toNat % 4096))
        (decide (0xFFFF < s.hl.toNat + (s.reg16 p).toNat)) t ∧
      RegsKept [.h, .l, .f] s t ∧ OnlyRegsChange s t :=
  ⟨_, rfl, (congrArg BitVec.toNat (hl_setHl _ s)).trans (toNat_add16_res s.hl (s.reg16 p)), flagsAre_setFlags _ _ _ _ _,
    (regsKept_setHl _ s).trans (regsKept_setFlags _ _ _ _ _),
    (onlyRegsChange_setHl _ s).trans (onlyRegsChange_setFlags _ _ _ _ _)⟩

theorem incPair_effect (p : Reg16) (s : State) :
    ∃ t, incPair p s = .next t ∧ (t.reg16 p).toNat = ((s.reg16 p).toNat + 1) % 65536 ∧ RegsKept p.names s t ∧
      OnlyRegsChange s t := by
  refine ⟨_, rfl, ?_, regsKept_setReg16 p _ s, onlyRegsChange_setReg16 p _ s⟩
  rw [reg16_setReg16]
  exact BitVec.toNat_add _ _

theorem decPair_effect (p : Reg16) (s : State) :
    ∃ t, decPair p s = .next t ∧ (t.reg16 p).toNat = ((s.reg16 p).toNat + 65535) % 65536 ∧ RegsKept p.names s t ∧
      OnlyRegsChange s t := by
  refine ⟨_, rfl, ?_, regsKept_setReg16 p _ s, onlyRegsChange_setReg16 p _ s⟩
  rw [reg16_setReg16, Nat.add_comm]
  exact BitVec.toNat_sub _ _

/-! ## The families: encoding, cost and shared meaning -/

theorem addHlOf_form (p : Reg16) (s : State) :
    encode (addHlOf p) = [0b00#2 ++ p.code ++ 0b1001#4] ∧ cost (addHlOf p) s = 8 := by
  cases p <;> exact ⟨rfl, rfl⟩

theorem exec_addHlOf (p : Reg16) (s : State) : exec (addHlOf p) s = addHl p s := by cases p <;> rfl

theorem incPairOf_form (p : Reg16) (s : State) :
    encode (incPairOf p) = [0b00#2 ++ p.code ++ 0b0011#4] ∧ cost (incPairOf p) s = 8 := by
  cases p <;> exact ⟨rfl, rfl⟩

theorem exec_incPairOf (p : Reg16) (s : State) : exec (incPairOf p) s = incPair p s := by cases p <;> rfl

theorem decPairOf_form (p : Reg16) (s : State) :
    encode (decPairOf p) = [0b00#2 ++ p.code ++ 0b1011#4] ∧ cost (decPairOf p) s = 8 := by
  cases p <;> exact ⟨rfl, rfl⟩

theorem exec_decPairOf (p : Reg16) (s : State) : exec (decPairOf p) s = decPair p s := by cases p <;> rfl

/-! ## The statement -/

/-- Settles O54: the sum with `Z` written back as it was, and one write of the pair by `INC` and by `DEC`. -/
theorem sixteenBitArithmetic : Obligations.SixteenBitArithmetic := by
  refine fun p s => ⟨?_, ?_, ?_⟩
  · obtain ⟨henc, hcost⟩ := addHlOf_form p s
    rw [exec_addHlOf]
    exact ⟨henc, hcost, addHl_effect p s⟩
  · obtain ⟨henc, hcost⟩ := incPairOf_form p s
    rw [exec_incPairOf]
    exact ⟨henc, hcost, incPair_effect p s⟩
  · obtain ⟨henc, hcost⟩ := decPairOf_form p s
    rw [exec_decPairOf]
    exact ⟨henc, hcost, decPair_effect p s⟩

end Sys2Proof.Machine
end

section
/-! PROOFS. Rotates, shifts and the bit instructions (44_rotate_shift_bit.md R250 to R276): a rotate or shift as a result
with its flags, one bit of a byte changed, what each shared meaning does, and the statements over their instructions. -/

namespace Sys2Proof.Machine

/-! ## A rotate or shift as a result with its flags -/

/-- The result of a CB-page rotate or shift and the flags it gives (44_rotate_shift_bit.md R250). -/
def shiftOut (k : ShiftOp) (v : Byte) (cin : Bool) : AluOut :=
  { res := (shift8 k v cin).1, z := (shift8 k v cin).1 == 0#8, n := false, h := false, c := (shift8 k v cin).2 }

theorem shiftOut_z (k : ShiftOp) (v : Byte) (cin : Bool) :
    (shiftOut k v cin).z = decide ((shiftOut k v cin).res = 0) := rfl

theorem ResultIn.shiftedBits {k : ShiftOp} {r : Reg8} {v : Byte} {cin : Bool} {o : AluOut} {s u t : State}
    (h : ResultIn r o s u t) (ho : o.res = (shift8 k v cin).1) :
    ∀ j, j < 8 → bitAt (t.reg8 r) j = k.resultBit v cin j := fun j hj => by
  rw [h.res, ho]
  exact shift8_bits k v cin j hj

/-- The accumulator forms give the same result and carry, and clear `Z`. -/
theorem rotateA_effect (k : ShiftOp) (s : State) :
    ∃ t, rotateA k s = .next t ∧ (∀ j, j < 8 → bitAt t.regs.a j = k.resultBit s.regs.a s.flagC j) ∧
      FlagsAre false false false (k.bitOut s.regs.a) t ∧ RegsKept [.a, .f] s t ∧ OnlyRegsChange s t := by
  have ht := resultIn_setFlags_setReg8 .a { shiftOut k s.regs.a s.flagC with z := false } s
  refine ⟨_, rfl, ht.shiftedBits rfl, ?_, ht.kept, ht.only⟩
  rw [← shift8_out k s.regs.a s.flagC]
  exact ht.flags

theorem shiftReg_effect (k : ShiftOp) (r : Reg8) (s : State) :
    ∃ t, shiftReg k r s = .next t ∧ (∀ j, j < 8 → bitAt (t.reg8 r) j = k.resultBit (s.reg8 r) s.flagC j) ∧
      FlagsAre (decide (t.reg8 r = 0)) false false (k.bitOut (s.reg8 r)) t ∧ RegsKept [r.name, .f] s t ∧
      OnlyRegsChange s t := by
  have ht := resultIn_setFlags_setReg8 r (shiftOut k (s.reg8 r) s.flagC) s
  refine ⟨_, rfl, ht.shiftedBits rfl, ?_, ht.kept, ht.only⟩
  rw [← shift8_out k (s.reg8 r) s.flagC]
  exact ht.flagsAre (shiftOut_z _ _ _)

theorem shiftMem_eq_modifyMem (k : ShiftOp) (s : State) : shiftMem k s = modifyMem (shiftOut k) s := rfl

theorem shiftMem_effect {s u : State} {b : Byte} (k : ShiftOp) (h : Reads s.hl s b u) :
    ∃ v w t, shiftMem k s = .next t ∧ (∀ j, j < 8 → bitAt v j = k.resultBit b s.flagC j) ∧ Stores s.hl v u w ∧
      FlagsAre (decide (v = 0)) false false (k.bitOut b) t ∧ RegsKept [.f] s t ∧ OnlyRegsChange w t := by
  obtain ⟨w, t, hexec, hstores, hflags, hkept, honly⟩ := modifyMem_effect (shiftOut k) h
  rw [← shiftMem_eq_modifyMem] at hexec
  refine ⟨_, w, t, hexec, shift8_bits k b s.flagC, hstores, ?_, hkept, honly⟩
  rw [← shift8_out k b s.flagC]
  exact hflags

/-! ## One bit of a byte -/

theorem bitAt_bitMask (n : Nat) {j : Nat} (hj : j < 8) : bitAt (bitMask n) j = decide (j = n) := by
  have hmask : bitMask n = BitVec.twoPow 8 n := (BitVec.twoPow_eq 8 n).symm
  unfold bitAt
  rw [hmask, BitVec.getLsbD_twoPow, ← Bool.decide_and, decide_eq_decide]
  omega

/-- `RES` clears the bit and keeps every other. -/
theorem bitAt_and_not_bitMask (v : Byte) (n : Nat) {j : Nat} (hj : j < 8) :
    bitAt (v &&& ~~~bitMask n) j = if j = n then false else bitAt v j := by
  have hmask : bitAt (v &&& ~~~bitMask n) j = (bitAt v j && !bitAt (bitMask n) j) := by
    simp only [bitAt, BitVec.getLsbD_and, BitVec.getLsbD_not, hj, decide_true, Bool.true_and]
  rw [hmask, bitAt_bitMask n hj]
  by_cases h : j = n <;> simp [h]

/-- `SET` sets the bit and keeps every other. -/
theorem bitAt_or_bitMask (v : Byte) (n : Nat) {j : Nat} (hj : j < 8) :
    bitAt (v ||| bitMask n) j = if j = n then true else bitAt v j := by
  have hmask : bitAt (v ||| bitMask n) j = (bitAt v j || bitAt (bitMask n) j) := BitVec.getLsbD_or
  rw [hmask, bitAt_bitMask n hj]
  by_cases h : j = n <;> simp [h]

/-! ## What the shared bit operations do -/

theorem bitReg_effect (n : Nat) (r : Reg8) (s : State) :
    ∃ t, bitReg n r s = .next t ∧ FlagsAre (!bitAt (s.reg8 r) n) false true s.flagC t ∧ RegsKept [.f] s t ∧
      OnlyRegsChange s t :=
  ⟨_, rfl, setFlags_effect _ _ _ _ s⟩

theorem bitMem_reads {s u : State} {b : Byte} (n : Nat) (h : Reads s.hl s b u) :
    bitMem n s = .next (testBit n b u) := by
  unfold bitMem
  rw [busRead_iff.2 h, Res.bind_ok, Res.done_ok]

/-- The read moves no register, so the carry written back is the old one. -/
theorem bitMem_effect {s u : State} {b : Byte} (n : Nat) (h : Reads s.hl s b u) :
    ∃ t, bitMem n s = .next t ∧ FlagsAre (!bitAt b n) false true s.flagC t ∧ RegsKept [.f] s t ∧
      OnlyRegsChange u t := by
  rw [← flagC_congr h.regs]
  obtain ⟨hflags, hkept, honly⟩ := setFlags_effect (!bitAt b n) false true u.flagC u
  exact ⟨_, bitMem_reads n h, hflags, hkept.of_regs_eq h.regs, honly⟩

/-- `RES` of a register is the load of the byte with the bit cleared. -/
theorem clearBitReg_eq_loadImm (n : Nat) (r : Reg8) (s : State) :
    clearBitReg n r s = loadImm r (s.reg8 r &&& ~~~bitMask n) s := rfl

/-- `SET` of a register is the load of the byte with the bit set. -/
theorem setBitReg_eq_loadImm (n : Nat) (r : Reg8) (s : State) :
    setBitReg n r s = loadImm r (s.reg8 r ||| bitMask n) s := rfl

/-- A byte loaded into a register, its bits known. -/
theorem loadImm_bits {v : Byte} {p : Nat → Bool} (hbits : ∀ j, j < 8 → bitAt v j = p j) (r : Reg8) (s : State) :
    ∃ t, loadImm r v s = .next t ∧ (∀ j, j < 8 → bitAt (t.reg8 r) j = p j) ∧ RegsKept [r.name] s t ∧
      OnlyRegsChange s t := by
  obtain ⟨t, hexec, rfl, hframe⟩ := loadImm_effect r v s
  exact ⟨t, hexec, hbits, hframe⟩

theorem clearBitReg_effect (n : Nat) (r : Reg8) (s : State) :
    ∃ t, clearBitReg n r s = .next t ∧
      (∀ j, j < 8 → bitAt (t.reg8 r) j = if j = n then false else bitAt (s.reg8 r) j) ∧
      RegsKept [r.name] s t ∧ OnlyRegsChange s t := by
  rw [clearBitReg_eq_loadImm]
  exact loadImm_bits (fun _ => bitAt_and_not_bitMask (s.reg8 r) n) r s

theorem setBitReg_effect (n : Nat) (r : Reg8) (s : State) :
    ∃ t, setBitReg n r s = .next t ∧
      (∀ j, j < 8 → bitAt (t.reg8 r) j = if j = n then true else bitAt (s.reg8 r) j) ∧
      RegsKept [r.name] s t ∧ OnlyRegsChange s t := by
  rw [setBitReg_eq_loadImm]
  exact loadImm_bits (fun _ => bitAt_or_bitMask (s.reg8 r) n) r s

/-- What `RES b,(HL)` and `SET b,(HL)` share: one read and one write of the byte at `HL`, and no flag. -/
def rewriteMem (f : Byte → Byte) (s : State) : Exec := ((busRead s.hl s).bind fun v s => busWrite s.hl (f v) s).done

theorem clearBitMem_eq_rewriteMem (n : Nat) (s : State) : clearBitMem n s = rewriteMem (· &&& ~~~bitMask n) s := rfl

theorem setBitMem_eq_rewriteMem (n : Nat) (s : State) : setBitMem n s = rewriteMem (· ||| bitMask n) s := rfl

/-- The read moves no register, so the write is at the same address. -/
theorem rewriteMem_reads {s u t : State} {b : Byte} (f : Byte → Byte) (h : Reads s.hl s b u)
    (hw : Stores s.hl (f b) u t) : rewriteMem f s = .next t := by
  unfold rewriteMem
  rw [busRead_iff.2 h, Res.bind_ok, hl_congr h.regs, busWrite_iff.2 hw, Res.done_ok]

theorem rewriteMem_bits {s u : State} {b : Byte} {f : Byte → Byte} {p : Nat → Bool} (h : Reads s.hl s b u)
    (hbits : ∀ j, j < 8 → bitAt (f b) j = p j) :
    ∃ v t, rewriteMem f s = .next t ∧ Stores s.hl v u t ∧ ∀ j, j < 8 → bitAt v j = p j :=
  have hw := writeTarget_stores (f b) u h.covered
  ⟨_, _, rewriteMem_reads f h hw, hw, hbits⟩

theorem clearBitMem_effect {s u : State} {b : Byte} (n : Nat) (h : Reads s.hl s b u) :
    ∃ v t, clearBitMem n s = .next t ∧ Stores s.hl v u t ∧
      ∀ j, j < 8 → bitAt v j = if j = n then false else bitAt b j := by
  rw [clearBitMem_eq_rewriteMem]
  exact rewriteMem_bits h fun _ => bitAt_and_not_bitMask b n

theorem setBitMem_effect {s u : State} {b : Byte} (n : Nat) (h : Reads s.hl s b u) :
    ∃ v t, setBitMem n s = .next t ∧ Stores s.hl v u t ∧
      ∀ j, j < 8 → bitAt v j = if j = n then true else bitAt b j := by
  rw [setBitMem_eq_rewriteMem]
  exact rewriteMem_bits h fun _ => bitAt_or_bitMask b n

/-! ## The families: encoding, cost and shared meaning -/

theorem shiftOf_form (k : ShiftOp) (r : Reg8) (s : State) :
    encode (shiftOf k r) = [0xCB#8, 0b00#2 ++ k.code ++ r.code] ∧ cost (shiftOf k r) s = 8 := by
  cases k <;> cases r <;> exact ⟨rfl, rfl⟩

theorem exec_shiftOf (k : ShiftOp) (r : Reg8) (s : State) : exec (shiftOf k r) s = shiftReg k r s := by
  cases k <;> cases r <;> rfl

theorem shiftHlOf_form (k : ShiftOp) (s : State) :
    encode (shiftHlOf k) = [0xCB#8, 0b00#2 ++ k.code ++ 0b110#3] ∧ cost (shiftHlOf k) s = 16 := by
  cases k <;> exact ⟨rfl, rfl⟩

theorem exec_shiftHlOf (k : ShiftOp) (s : State) : exec (shiftHlOf k) s = shiftMem k s := by cases k <;> rfl

theorem bitTestOf_form (n : BitNo) (r : Reg8) (s : State) :
    encode (bitTestOf n r) = [0xCB#8, 0b01#2 ++ n.code ++ r.code] ∧ cost (bitTestOf n r) s = 8 := by
  cases n <;> cases r <;> exact ⟨rfl, rfl⟩

theorem exec_bitTestOf (n : BitNo) (r : Reg8) (s : State) : exec (bitTestOf n r) s = bitReg n.val r s := by
  cases n <;> cases r <;> rfl

theorem bitTestHlOf_form (n : BitNo) (s : State) :
    encode (bitTestHlOf n) = [0xCB#8, 0b01#2 ++ n.code ++ 0b110#3] ∧ cost (bitTestHlOf n) s = 12 := by
  cases n <;> exact ⟨rfl, rfl⟩

theorem exec_bitTestHlOf (n : BitNo) (s : State) : exec (bitTestHlOf n) s = bitMem n.val s := by cases n <;> rfl

theorem bitResOf_form (n : BitNo) (r : Reg8) (s : State) :
    encode (bitResOf n r) = [0xCB#8, 0b10#2 ++ n.code ++ r.code] ∧ cost (bitResOf n r) s = 8 := by
  cases n <;> cases r <;> exact ⟨rfl, rfl⟩

theorem exec_bitResOf (n : BitNo) (r : Reg8) (s : State) : exec (bitResOf n r) s = clearBitReg n.val r s := by
  cases n <;> cases r <;> rfl

theorem bitResHlOf_form (n : BitNo) (s : State) :
    encode (bitResHlOf n) = [0xCB#8, 0b10#2 ++ n.code ++ 0b110#3] ∧ cost (bitResHlOf n) s = 16 := by
  cases n <;> exact ⟨rfl, rfl⟩

theorem exec_bitResHlOf (n : BitNo) (s : State) : exec (bitResHlOf n) s = clearBitMem n.val s := by cases n <;> rfl

theorem bitSetOf_form (n : BitNo) (r : Reg8) (s : State) :
    encode (bitSetOf n r) = [0xCB#8, 0b11#2 ++ n.code ++ r.code] ∧ cost (bitSetOf n r) s = 8 := by
  cases n <;> cases r <;> exact ⟨rfl, rfl⟩

theorem exec_bitSetOf (n : BitNo) (r : Reg8) (s : State) : exec (bitSetOf n r) s = setBitReg n.val r s := by
  cases n <;> cases r <;> rfl

theorem bitSetHlOf_form (n : BitNo) (s : State) :
    encode (bitSetHlOf n) = [0xCB#8, 0b11#2 ++ n.code ++ 0b110#3] ∧ cost (bitSetHlOf n) s = 16 := by
  cases n <;> exact ⟨rfl, rfl⟩

theorem exec_bitSetHlOf (n : BitNo) (s : State) : exec (bitSetHlOf n) s = setBitMem n.val s := by cases n <;> rfl

/-! ## The statements -/

/-- Settles O55: every form writes `shift8`, whose bits and carry are those the statement names, `(HL)` by one read and
one write. -/
theorem rotatesAndShiftsMoveEveryBit : Obligations.RotatesAndShiftsMoveEveryBit := by
  refine ⟨fun s k i op hmem => ?_, fun k r s u b => ⟨?_, ?_⟩⟩
  · have hform : encode i = [op] ∧ cost i s = 4 ∧ exec i s = rotateA k s := by
      simp only [List.mem_cons, Prod.mk.injEq, List.not_mem_nil, or_false] at hmem
      obtain ⟨rfl, rfl, rfl⟩ | ⟨rfl, rfl, rfl⟩ | ⟨rfl, rfl, rfl⟩ | ⟨rfl, rfl, rfl⟩ := hmem
      all_goals exact ⟨rfl, rfl, rfl⟩
    obtain ⟨henc, hcost, hexec⟩ := hform
    rw [hexec]
    exact ⟨henc, hcost, rotateA_effect k s⟩
  · obtain ⟨henc, hcost⟩ := shiftOf_form k r s
    rw [exec_shiftOf]
    exact ⟨henc, hcost, shiftReg_effect k r s⟩
  · obtain ⟨henc, hcost⟩ := shiftHlOf_form k s
    rw [exec_shiftHlOf]
    exact ⟨henc, hcost, shiftMem_effect k⟩

/-- Settles O56: `BIT` writes the flags alone, with the carry as it was; `RES` and `SET` write the byte masked at the one
bit, to the register or by one read and one write at `HL`. -/
theorem bitResAndSetTouchOneBit : Obligations.BitResAndSetTouchOneBit := by
  refine ⟨fun n r s u b => ⟨?_, ?_⟩, fun n r s u b => ⟨?_, ?_, ?_, ?_⟩⟩
  · obtain ⟨henc, hcost⟩ := bitTestOf_form n r s
    rw [exec_bitTestOf]
    exact ⟨henc, hcost, bitReg_effect n.val r s⟩
  · obtain ⟨henc, hcost⟩ := bitTestHlOf_form n s
    rw [exec_bitTestHlOf]
    exact ⟨henc, hcost, bitMem_effect n.val⟩
  · obtain ⟨henc, hcost⟩ := bitResOf_form n r s
    rw [exec_bitResOf]
    exact ⟨henc, hcost, clearBitReg_effect n.val r s⟩
  · obtain ⟨henc, hcost⟩ := bitSetOf_form n r s
    rw [exec_bitSetOf]
    exact ⟨henc, hcost, setBitReg_effect n.val r s⟩
  · obtain ⟨henc, hcost⟩ := bitResHlOf_form n s
    rw [exec_bitResHlOf]
    exact ⟨henc, hcost, clearBitMem_effect n.val⟩
  · obtain ⟨henc, hcost⟩ := bitSetHlOf_form n s
    rw [exec_bitSetHlOf]
    exact ⟨henc, hcost, setBitMem_effect n.val⟩

end Sys2Proof.Machine
end

section
/-! PROOFS. The jumps, the calls and `RST` (45_control.md R286 to R292, R298): what a write of `PC` leaves alone, what
each shared transfer does taken and not taken, and the statements over their instructions. -/

namespace Sys2Proof.Machine

/-! ## `PC`, written -/

theorem memoryKept_setPc (v : Word) (s : State) : MemoryKept s (setPc v s) :=
  (onlyRegsChange_of_regs (s := s) (t := setPc v s) rfl).2

/-- Writing back the value it holds changes nothing. -/
@[simp] theorem setPc_self (s : State) : setPc s.regs.pc s = s := rfl

/-! ## What the shared transfers do -/

/-- Not taken, a jump leaves `PC` at the address after the instruction. -/
theorem jumpIf_eq (cc : Cond) (nn : Word) (s : State) :
    jumpIf cc nn s = .next (setPc (if s.cond cc then nn else s.regs.pc) s) := by
  unfold jumpIf
  split
  · rfl
  · rw [setPc_self]

/-- A relative jump is a jump to `PC + sext_16(e)`. -/
theorem jumpRel_eq_jumpTo (e : Byte) (s : State) : jumpRel e s = jumpTo (s.regs.pc + sext16 e) s := rfl

theorem jumpRelIf_eq_jumpIf (cc : Cond) (e : Byte) (s : State) :
    jumpRelIf cc e s = jumpIf cc (s.regs.pc + sext16 e) s := rfl

theorem callRes_pushes {s u : State} (a : Word) (h : Pushes s.regs.pc s u) : callRes a s = .ok () (setPc a u) := by
  unfold callRes
  rw [push16_iff.2 h, Res.bind_ok]

theorem callTo_pushes {s u : State} (nn : Word) (h : Pushes s.regs.pc s u) : callTo nn s = .next (setPc nn u) := by
  unfold callTo
  rw [callRes_pushes nn h, Res.done_ok]

theorem restart_pushes {s u : State} (t : BitVec 3) (h : Pushes s.regs.pc s u) :
    restart t s = .next (setPc (rstTarget t) u) := by
  unfold restart
  rw [callRes_pushes _ h, Res.done_ok]

/-- Taken, `CALL cc,nn` is `CALL nn`. -/
theorem callIf_taken {cc : Cond} {s : State} (nn : Word) (h : s.cond cc = true) : callIf cc nn s = callTo nn s := by
  unfold callIf callTo
  rw [if_pos h]

theorem callIf_not_taken {cc : Cond} {s : State} (nn : Word) (h : s.cond cc = false) : callIf cc nn s = .next s := by
  unfold callIf
  rw [if_neg (Bool.eq_false_iff.1 h), Res.done_ok]

theorem Pushes.regsKept {v : Word} {s u : State} (h : Pushes v s u) : RegsKept [.sp] s u :=
  fun x hx => (regOf_congr (s := setSp (s.regs.sp - 2) s) h.regs x).trans (regsKept_setSp _ s x hx)

theorem rstTarget_code (n : BitNo) : rstTarget n.code = BitVec.ofNat 16 (8 * n.val) := by cases n <;> rfl

/-! ## The families: encoding, cost and shared meaning -/

theorem jpIfOf_form (cc : Cond) (nn : Word) (s : State) :
    encode (jpIfOf cc nn) = [0b110#3 ++ cc.code ++ 0b010#3, lo8 nn, hi8 nn] ∧
      cost (jpIfOf cc nn) s = (if s.cond cc then 16 else 12) := by
  cases cc <;> exact ⟨rfl, rfl⟩

theorem exec_jpIfOf (cc : Cond) (nn : Word) (s : State) : exec (jpIfOf cc nn) s = jumpIf cc nn s := by cases cc <;> rfl

theorem jrIfOf_form (cc : Cond) (e : Byte) (s : State) :
    encode (jrIfOf cc e) = [0b001#3 ++ cc.code ++ 0b000#3, e] ∧
      cost (jrIfOf cc e) s = (if s.cond cc then 12 else 8) := by
  cases cc <;> exact ⟨rfl, rfl⟩

theorem exec_jrIfOf (cc : Cond) (e : Byte) (s : State) : exec (jrIfOf cc e) s = jumpRelIf cc e s := by cases cc <;> rfl

theorem callIfOf_form (cc : Cond) (nn : Word) (s : State) :
    encode (callIfOf cc nn) = [0b110#3 ++ cc.code ++ 0b100#3, lo8 nn, hi8 nn] ∧
      cost (callIfOf cc nn) s = (if s.cond cc then 24 else 12) := by
  cases cc <;> exact ⟨rfl, rfl⟩

theorem exec_callIfOf (cc : Cond) (nn : Word) (s : State) : exec (callIfOf cc nn) s = callIf cc nn s := by
  cases cc <;> rfl

theorem rstOf_form (n : BitNo) (s : State) :
    encode (rstOf n) = [0b11#2 ++ n.code ++ 0b111#3] ∧ cost (rstOf n) s = 16 := by
  cases n <;> exact ⟨rfl, rfl⟩

theorem exec_rstOf (n : BitNo) (s : State) : exec (rstOf n) s = restart n.code s := by cases n <;> rfl

/-! ## The statements -/

/-- Settles O57: the condition the statement reads from the bits of `F` is `Cond(cc)`, and `PC` plus the sign-extended
byte is its integer sum; every form is then one write of `PC`. -/
theorem jumpsSetThePc : Obligations.JumpsSetThePc := by
  intro cc nn e s taken rel
  have htaken : taken = s.cond cc := by cases cc <;> rfl
  have hrel : rel = s.regs.pc + sext16 e := (add_sext16 s.regs.pc e).symm
  rw [htaken, hrel, exec_jpIfOf, exec_jrIfOf, jumpRelIf_eq_jumpIf, jumpIf_eq, jumpIf_eq]
  obtain ⟨hjp, hjpCost⟩ := jpIfOf_form cc nn s
  obtain ⟨hjr, hjrCost⟩ := jrIfOf_form cc e s
  exact ⟨⟨rfl, rfl, rfl⟩, ⟨hjp, hjpCost, rfl⟩, ⟨rfl, rfl, rfl⟩, ⟨rfl, rfl, jumpRel_eq_jumpTo e s⟩,
    ⟨hjr, hjrCost, rfl⟩, fun v => memoryKept_setPc v s⟩

/-- Settles O58: with both addresses covered the push of `PC` completes, and each form ends it with one write of `PC`; a
`CALL cc,nn` not taken does not reach the push. -/
theorem callsPushTheReturnAddress : Obligations.CallsPushTheReturnAddress := by
  intro cc n nn s
  rw [exec_callIfOf, exec_rstOf, ← rstTarget_code]
  refine ⟨⟨rfl, rfl⟩, callIfOf_form cc nn s, rstOf_form n s, fun hhi hlo => ?_, callIf_not_taken nn⟩
  obtain ⟨u, hu⟩ := push16_covered s.regs.pc s hhi hlo
  have hsp : u.regs.sp = s.regs.sp - 2 := by rw [hu.regs]
  have hcall : callTo nn s = .next (setPc nn u) := callTo_pushes nn hu
  exact ⟨u, hu, hsp, hu.regsKept, hcall, fun htaken => (callIf_taken nn htaken).trans hcall,
    restart_pushes n.code hu⟩

end Sys2Proof.Machine
end

section
/-! PROOFS. The decoder and the encoder (30_encoding.md): each reads back what the other wrote, the length the first byte
gives, and the CB page behind its own first byte. -/

namespace Sys2Proof

/-! ## The opcode map by its two digits -/

/-- The byte of two hexadecimal digits. -/
def Hex.byte (hi lo : Hex) : Byte := BitVec.ofNat 8 (16 * hi.ctorIdx + lo.ctorIdx)

theorem Hex.byte_digits : ∀ v : Byte, Hex.byte (hexHigh v) (hexLow v) = v := by decide

/-- What holds of the byte of any two digits holds of any byte. -/
theorem Hex.forall_byte {P : Byte → Prop} (h : ∀ hi lo, P (Hex.byte hi lo)) (v : Byte) : P v :=
  Hex.byte_digits v ▸ h (hexHigh v) (hexLow v)

/-- The second byte selects a CB-page instruction whose words are 0xCB and that byte (R131). -/
theorem encode_cbInstr (b : Byte) : WellFormed (cbInstr b) = true ∧ encode (cbInstr b) = [0xCB#8, b] := by
  refine Hex.forall_byte (P := fun b => WellFormed (cbInstr b) = true ∧ encode (cbInstr b) = [0xCB#8, b]) ?_ b
  intro hi lo
  cases hi <;> cases lo <;> exact ⟨rfl, rfl⟩

/-- Every entry of the opcode map is an instruction whose words are the bytes it was read from, as many as the first
byte says. The rows with a 16-bit operand put its two bytes together and take them apart again. -/
theorem encode_decodeOp (op b1 b2 : Byte) :
    WellFormed (decodeOp op b1 b2) = true ∧ encode (decodeOp op b1 b2) = [op, b1, b2].take (instrLength op) := by
  refine Hex.forall_byte (P := fun op => WellFormed (decodeOp op b1 b2) = true ∧
    encode (decodeOp op b1 b2) = [op, b1, b2].take (instrLength op)) ?_ op
  intro hi lo
  have hlo : lo8 (pair b2 b1) = b1 := lo8_pair b2 b1
  have hhi : hi8 (pair b2 b1) = b2 := hi8_pair b2 b1
  cases hi <;> cases lo
  case hC.hB => exact encode_cbInstr b1
  case h0.h1 | h0.h8 | h1.h1 | h2.h1 | h3.h1 | hC.h2 | hC.h3 | hC.h4 | hC.hA | hC.hC | hC.hD | hD.h2 | hD.h4 | hD.hA | hD.hC
    | hE.hA | hF.hA =>
    refine ⟨rfl, ?_⟩
    change [_, lo8 (pair b2 b1), hi8 (pair b2 b1)] = [_, b1, b2]
    rw [hlo, hhi]
    rfl
  all_goals exact ⟨rfl, rfl⟩

theorem instrLength_cases : ∀ op : Byte, instrLength op = 1 ∨ instrLength op = 2 ∨ instrLength op = 3 := by decide

/-! ## The decoder by the length of the instruction -/

/-- With enough bytes the decoder takes as many as the first one says, and they are the words of what it read. -/
theorem decode_enough {op : Byte} {rest : List Byte} (h : instrLength op ≤ 1 + rest.length) :
    ∃ i, decode (op :: rest) = .ok (i, rest.drop (instrLength op - 1)) ∧ WellFormed i = true ∧
      encode i = op :: rest.take (instrLength op - 1) := by
  rcases instrLength_cases op with hn | hn | hn <;> rw [hn] at h ⊢
  · obtain ⟨hwf, henc⟩ := encode_decodeOp op 0 0
    exact ⟨decodeOp op 0 0, by simp only [decode, hn]; rfl, hwf, by rw [henc, hn]; rfl⟩
  · obtain ⟨b1, rest, rfl⟩ := List.exists_cons_of_length_pos (l := rest) (by omega)
    obtain ⟨hwf, henc⟩ := encode_decodeOp op b1 0
    exact ⟨decodeOp op b1 0, by simp only [decode, hn]; rfl, hwf, by rw [henc, hn]; rfl⟩
  · obtain ⟨b1, rest, rfl⟩ := List.exists_cons_of_length_pos (l := rest) (by omega)
    obtain ⟨b2, rest, rfl⟩ := List.exists_cons_of_length_pos (l := rest) (by simp only [List.length_cons] at h; omega)
    obtain ⟨hwf, henc⟩ := encode_decodeOp op b1 b2
    exact ⟨decodeOp op b1 b2, by simp only [decode, hn]; rfl, hwf, by rw [henc, hn]; rfl⟩

/-- With fewer it stops, and says how many it needed. -/
theorem decode_short {op : Byte} {rest : List Byte} (h : 1 + rest.length < instrLength op) :
    decode (op :: rest) = .error (.truncated op (instrLength op) (1 + rest.length)) := by
  rcases instrLength_cases op with hn | hn | hn <;> rw [hn] at h ⊢
  · omega
  · obtain rfl := List.length_eq_zero_iff.1 (show rest.length = 0 by omega)
    simp only [decode, hn]
  · rcases rest with _ | ⟨b1, _ | ⟨b2, rest⟩⟩
    · simp only [decode, hn]
    · simp only [decode, hn]
    · simp only [List.length_cons] at h
      omega

/-- The decoder reads every instruction back from its words. Its bytes are looked up in the opcode map; a 16-bit operand
is put together again from its two halves. -/
theorem decode_encode (i : Instr) (rest : List Byte) (h : WellFormed i = true) :
    decode (encode i ++ rest) = .ok (i, rest) := by
  cases i
  case prefixCb => cases h
  case ld_bc_nn nn | ld_mnn_sp nn | ld_de_nn nn | ld_hl_nn nn | ld_sp_nn nn | jp_nz_nn nn | jp_nn nn | call_nz_nn nn
    | jp_z_nn nn | call_z_nn nn | call_nn nn | jp_nc_nn nn | call_nc_nn nn | jp_c_nn nn | call_c_nn nn | ld_mnn_a nn
    | ld_a_mnn nn =>
    conv_rhs => rw [← pair_hi8_lo8 nn]
    rfl
  all_goals rfl

namespace Machine

/-! ## The CB page -/

/-- 0xCB with its second byte runs and costs what the CB-page instruction of that byte runs and costs (R305). -/
theorem exec_prefixCb_eq (b : Byte) (s : State) :
    exec (.prefixCb b) s = exec (cbInstr b) s ∧ cost (.prefixCb b) s = cost (cbInstr b) s := by
  refine Hex.forall_byte (P := fun b => exec (.prefixCb b) s = exec (cbInstr b) s ∧
    cost (.prefixCb b) s = cost (cbInstr b) s) ?_ b
  intro hi lo
  cases hi <;> cases lo <;> exact ⟨rfl, rfl⟩

end Machine

/-! ## The statements -/

/-- Settles O1: by the opcode map, instruction by instruction. -/
theorem decodeReadsBackEveryEncoding : Obligations.DecodeReadsBackEveryEncoding := decode_encode

/-- Settles O2: bytes too few are not read, and bytes enough are the words of what is read. -/
theorem encodeReadsBackEveryDecoding : Obligations.EncodeReadsBackEveryDecoding := by
  intro bytes i rest h
  cases bytes with
  | nil => cases h
  | cons op tail =>
    by_cases hn : instrLength op ≤ 1 + tail.length
    · obtain ⟨j, hdec, hwf, henc⟩ := decode_enough hn
      rw [hdec] at h
      cases h
      exact ⟨hwf, by rw [henc, List.cons_append, List.take_append_drop]⟩
    · rw [decode_short (by omega)] at h
      cases h

/-- Settles O3: the two lists of the statement are those of the length table in another order. -/
theorem lengthIsGivenByTheFirstByte : Obligations.LengthIsGivenByTheFirstByte := by
  intro op rest n
  have hn : n = instrLength op := by
    revert op
    decide
  rw [hn]
  refine ⟨fun h => ?_, decode_short⟩
  obtain ⟨i, hdec, -, henc⟩ := decode_enough h
  exact ⟨i, hdec, henc⟩

/-- Settles O4: each word is looked up in the opcode map. -/
theorem wordsOfTheSpecDecode : Obligations.WordsOfTheSpecDecode :=
  ⟨decode_encode .ld_a_b [] rfl, decode_encode (.ld_mhl_n 0x7E) [] rfl, decode_encode (.ld_a_mnn 0xFF44) [] rfl,
    decode_encode (.ld_hl_nn 0x1234) [] rfl, decode_encode (.ld_hl_sp_e 0x08) [] rfl, decode_encode .adc_a_e [] rfl,
    decode_encode .add_hl_bc [] rfl, decode_encode .swap_a [] rfl, decode_encode .set_1_e [] rfl,
    decode_encode (.jr_nz_e 0xFC) [] rfl, decode_encode .rst_28 [] rfl, decode_encode .halt [] rfl, rfl, rfl⟩

/-- Settles O5: the bytes of a CB-page instruction are 0xCB and the byte that selects it, so they decode to it; its
meaning completes as every meaning does. -/
theorem prefixRunsTheCbPageInstruction : Obligations.PrefixRunsTheCbPageInstruction := by
  intro b rest s
  obtain ⟨hwf, henc⟩ := encode_cbInstr b
  obtain ⟨hexec, hcost⟩ := Machine.exec_prefixCb_eq b s
  obtain ⟨t, ht, -⟩ := Machine.exec_completes (.prefixCb b) s
  have hdec := decode_encode (cbInstr b) rest hwf
  rw [henc] at hdec
  exact ⟨rfl, hwf, henc, hdec, hexec, hcost, t, ht⟩

end Sys2Proof
end

section
/-! PROOFS. Reset, the faulted machine, and what every step keeps of the registers, the memories, the cartridge and the
clock (10_state.md, 60_exceptions.md R320, 70_reset_and_hazards.md): for each invariant, that a primitive change and a
T-cycle keep it; `step_keeps` is the induction. -/

namespace Sys2Proof.Machine

/-! ## Reset -/

theorem flags_append_nibbles : ∀ f : BitVec 4, (f ++ 0#4).extractLsb' 4 4 = f ∧ (f ++ 0#4).extractLsb' 0 4 = 0#4 := by
  decide

theorem ppuInRange_reset : PpuInRange Ppu.reset where
  dot_lt := by decide
  ly_lt := by decide
  lx_le := by decide
  drawing_lx := by decide
  fifo_le := by decide
  sprites_le := by decide
  fetchX_lt := by decide
  discard_le := by decide
  backup_length := by decide
  off_is_idle := by decide

/-- The bank registers at 1 and 0 are legal for every controller. -/
theorem bankInRange_resetWith (cfg : Cfg) (rr : ResetRegs) (rm : ResetMem) (env : Env) :
    BankInRange (State.resetWith cfg rr rm env) := by
  unfold BankInRange
  change match cfg.kind with
    | .noMbc => True
    | .mbc1 => 1#9 ≠ 0 ∧ (1#9).toNat < 32 ∧ (0#4).toNat < 4
    | .mbc3 => 1#9 ≠ 0 ∧ (1#9).toNat < 128
    | .mbc5 => True
  cases cfg.kind <;> decide

/-- Settles O6: each line of the table of R50 is a field of `State.resetWith`. -/
theorem rstPutsEveryElementAtItsResetValue : Obligations.RstPutsEveryElementAtItsResetValue := by
  intro s rr rm t
  obtain ⟨hhigh, hlow⟩ := flags_append_nibbles rr.flags
  refine ⟨⟨rfl, rfl, rfl, rfl, rfl, rfl, rfl, rfl, rfl, hhigh, hlow⟩, ?_⟩
  repeat' constructor

/-- Settles O7. -/
theorem resetMeetsTheInvariants : Obligations.ResetMeetsTheInvariants := by
  have hreset : ∀ (cfg : Cfg) (rr : ResetRegs) (rm : ResetMem) (env : Env),
      Memory.wf 8192 rm.vram = true → Memory.wf 8192 rm.wram = true → Memory.wf 160 rm.oam = true →
      Memory.wf 127 rm.hram = true → Memory.wf cfg.cartRamSize cfg.cartRamInit = true →
      let s := State.resetWith cfg rr rm env
      FlagNibbleZero s ∧ DmaInRange s ∧ MemoriesCanonical s ∧ PpuInRange s.ppu ∧ NoPendingEnable s ∧ BankInRange s := by
    intro cfg rr rm env hvram hwram hoam hhram hcart
    exact ⟨(flags_append_nibbles rr.flags).2, ⟨Nat.zero_le _, fun h => (by cases h)⟩,
      ⟨hvram, hwram, hoam, hhram, hcart⟩, ppuInRange_reset, fun _ => rfl, bankInRange_resetWith cfg rr rm env⟩
  exact ⟨hreset, hreset _ _ _ _ rfl rfl rfl rfl rfl⟩

/-! ## The faulted machine -/

theorem step_faulted {s : State} {r : FaultRecord} (h : s.fault = some r) : step s = .fault (.stepWhileFaulted r) := by
  unfold step
  rw [h]

/-- Settles O14: a press, a release and a read of the cartridge RAM keep the fault record. -/
theorem faultedMachineDoesNotStep : Obligations.FaultedMachineDoesNotStep := by
  intro s r h
  refine ⟨step_faulted h, fun m => ?_⟩
  cases m with
  | rst rr rm => exact ⟨fun _ => ⟨rr, rm, rfl⟩, fun _ => rfl⟩
  | press which => simp [hostMove, h]
  | release which => simp [hostMove, h]
  | readCartRam => simp [hostMove, h]

/-! ## The flag nibble -/

theorem touch_flagNibbleZero {s t : State} (h : Touch s t) (hs : FlagNibbleZero s) : FlagNibbleZero t := by
  cases h with
  | regs r hr => exact hr hs
  | store a v hc =>
    obtain ⟨hregs, -⟩ := writeTarget_cpu (locate false a) v s
    rwa [FlagNibbleZero, hregs]
  | irq | ports | marks | fault => exact hs

theorem tick1_flagNibbleZero {s : State} (hs : FlagNibbleZero s) : FlagNibbleZero (tick1 s).state := by
  rwa [FlagNibbleZero, (tick1_frame s).regs]

/-- Settles O17: every write of `F` but those of the flags leaves it, and those pack four flags over a zero nibble. -/
theorem flagNibbleStaysZero : Obligations.FlagNibbleStaysZero :=
  fun _ _ hs h => step_keeps (fun _ _ => touch_flagNibbleZero) (fun _ => tick1_flagNibbleZero) h hs

/-! ## What a write does to the cartridge -/

/-- The clock latch writes the clock registers and its own arming. -/
theorem latchWrite_cart (v : Byte) (s : State) :
    ∃ now armed, (latchWrite v s).cart = { s.cart with rtc := now, latchArmed := armed } := by
  unfold latchWrite
  split_ifs
  · exact ⟨_, _, rfl⟩
  · exact ⟨(rtcNow s).1, false, by simp only; rw [rtcNow_frame]⟩
  · exact ⟨_, _, rfl⟩

/-- What a write does to the cartridge, said once: the clock latch, the controller's registers, and through the RAM
window nothing, one byte of the RAM, or one clock register. -/
theorem cartWrite_cart_cases (n : Nat) (v : Byte) (s : State) :
    (∃ now armed, (cartWrite n v s).cart = { s.cart with rtc := now, latchArmed := armed }) ∨
    (n < 0x8000 ∧ (cartWrite n v s).cart = bankWrite s.cfg.kind n v s.cart) ∨
    (∃ i, ramWindow s.cfg s.cart n = .ram i ∧ (cartWrite n v s).cart = { s.cart with ram := Memory.write s.cart.ram i v }) := by
  unfold cartWrite
  split_ifs with hn
  · exact .inl (latchWrite_cart v s)
  · exact .inr (.inl ⟨hn, rfl⟩)
  · split
    · exact .inl ⟨s.cart.rtc, s.cart.latchArmed, rfl⟩
    · rename_i i hw
      unfold cartRamStore
      split_ifs
      · exact .inl ⟨s.cart.rtc, s.cart.latchArmed, rfl⟩
      · exact .inr (.inr ⟨i, hw, rfl⟩)
    · exact .inl ⟨_, s.cart.latchArmed, rfl⟩

theorem bankWrite_ram (kind : CartKind) (n : Nat) (v : Byte) (c : Cart) : (bankWrite kind n v c).ram = c.ram := by
  unfold bankWrite
  split
  · rfl
  all_goals
    split_ifs
    all_goals rfl

/-- An open RAM window reaches a byte within the RAM. -/
theorem ramWindow_lt {cfg : Cfg} {c : Cart} {n i : Nat} (h : ramWindow cfg c n = .ram i) : i < cfg.cartRamSize := by
  obtain ⟨hi, hsize, -⟩ := ramWindow_ram h
  rw [hi, ramIndex]
  exact Nat.mod_lt _ (Nat.pos_of_ne_zero hsize)

theorem cartWrite_ram_wf {n : Nat} {v : Byte} {s : State} (h : Memory.wf s.cfg.cartRamSize s.cart.ram = true) :
    Memory.wf s.cfg.cartRamSize (cartWrite n v s).cart.ram = true := by
  rcases cartWrite_cart_cases n v s with ⟨now, armed, hc⟩ | ⟨-, hc⟩ | ⟨i, hw, hc⟩ <;> rw [hc]
  · exact h
  · rwa [bankWrite_ram]
  · exact Memory.wf_write (ramWindow_lt hw) h

/-! ## The memories and the DMA offset -/

/-- A bus write lands within the store that its place names. -/
theorem memoriesCanonical_writeTarget {a : Word} {t : Target} (hl : Located a t) (v : Byte) {s : State}
    (hs : MemoriesCanonical s) : MemoriesCanonical (writeTarget t v s) := by
  have hcart : ∀ n, MemoriesCanonical (writeTarget (.cart n) v s) := by
    obtain ⟨hvram, hwram, hoam, hhram, hram⟩ := hs
    intro n
    have h := cartWrite_ram_wf (n := n) (v := v) hram
    simp only [writeTarget]
    rw [cartWrite_frame]
    exact ⟨hvram, hwram, hoam, hhram, h⟩
  obtain ⟨hvram, hwram, hoam, hhram, hram⟩ := hs
  cases hl with
  | rom h => exact hcart _
  | cartRam h => exact hcart _
  | vram i h => exact ⟨Memory.wf_write h.1 hvram, hwram, hoam, hhram, hram⟩
  | wram i h => exact ⟨hvram, Memory.wf_write h.1 hwram, hoam, hhram, hram⟩
  | echo i h => exact ⟨hvram, Memory.wf_write (by omega) hwram, hoam, hhram, hram⟩
  | oam i h => exact ⟨hvram, hwram, Memory.wf_write h.1 hoam, hhram, hram⟩
  | hram i h => exact ⟨hvram, hwram, hoam, Memory.wf_write h.1 hhram, hram⟩
  | io r h => cases r <;> exact ⟨hvram, hwram, hoam, hhram, hram⟩
  | reserved | port | uncovered | ie => exact ⟨hvram, hwram, hoam, hhram, hram⟩

/-- A bus write leaves the DMA unit or starts a transfer at offset 0. -/
theorem dmaInRange_writeTarget (t : Target) (v : Byte) {s : State} (hs : DmaInRange s) :
    DmaInRange (writeTarget t v s) := by
  cases t with
  | io r =>
    cases r
    case dma => exact ⟨Nat.zero_le _, fun _ => Nat.succ_pos _⟩
    all_goals exact hs
  | cart n =>
    unfold DmaInRange
    simp only [writeTarget]
    rw [cartWrite_frame]
    exact hs
  | boot | vram | wram | oam | reserved | port | hram | ie | uncovered => exact hs

theorem touch_memoriesCanonical {s t : State} (h : Touch s t) (hs : MemoriesCanonical s ∧ DmaInRange s) :
    MemoriesCanonical t ∧ DmaInRange t := by
  cases h with
  | store a v hc =>
    obtain ⟨hmem, hdma⟩ := hs
    exact ⟨memoriesCanonical_writeTarget (located a) v hmem, dmaInRange_writeTarget _ v hdma⟩
  | regs | irq | ports | marks | fault => exact hs

/-- A T-cycle leaves OAM and the DMA unit, or copies one byte and advances the offset. -/
theorem tick1_dma_cases (s : State) :
    ((tick1 s).state.oam = s.oam ∧ (tick1 s).state.dma = s.dma) ∨
    (s.dma.active = true ∧ ∃ v, (tick1 s).state.oam = Memory.write s.oam s.dma.offset.toNat v ∧
      (tick1 s).state.dma = { s.dma with offset := s.dma.offset + 1,
                                         active := decide (s.dma.offset.toNat + 1 ≠ 160) }) := by
  rcases tick1_cases s with ⟨-, h⟩ | ⟨ha, v, u, hr, h⟩ | ⟨-, -, h⟩ <;> rw [h]
  · left
    simp only [Res.state_ok]
    rw [portTicks_frame, ppu_timer_frame]
    exact ⟨rfl, rfl⟩
  · right
    refine ⟨ha, v, ?_⟩
    simp only [Res.state_ok]
    rw [portTicks_frame, ppu_timer_frame]
    exact ⟨rfl, rfl⟩
  · left
    simp only [Res.state_raised, busFaulted]
    rw [ppu_timer_frame]
    exact ⟨rfl, rfl⟩

theorem tick1_memoriesCanonical {s : State} (hs : MemoriesCanonical s ∧ DmaInRange s) :
    MemoriesCanonical (tick1 s).state ∧ DmaInRange (tick1 s).state := by
  obtain ⟨⟨hvram, hwram, hoam, hhram, hram⟩, hdma⟩ := hs
  have hf := tick1_frame s
  unfold MemoriesCanonical DmaInRange
  rw [hf.vram, hf.wram, hf.hram, hf.cart, hf.cfg]
  rcases tick1_dma_cases s with ⟨ho, hd⟩ | ⟨ha, v, ho, hd⟩ <;> rw [ho, hd]
  · exact ⟨⟨hvram, hwram, hoam, hhram, hram⟩, hdma⟩
  · have hlt : s.dma.offset.toNat < 160 := hdma.2 ha
    have hnext : (s.dma.offset + 1).toNat = s.dma.offset.toNat + 1 := by bv_omega
    refine ⟨⟨hvram, hwram, Memory.wf_write hlt hoam, hhram, hram⟩, by simp only; omega, fun h => ?_⟩
    simp only [decide_eq_true_eq] at h ⊢
    omega

/-- Settles O18. -/
theorem memoriesStayCanonical : Obligations.MemoriesStayCanonical :=
  fun _ _ hmem hdma h => step_keeps (P := fun s => MemoriesCanonical s ∧ DmaInRange s)
    (fun _ _ => touch_memoriesCanonical) (fun _ => tick1_memoriesCanonical) h ⟨hmem, hdma⟩

/-! ## The bank registers -/

/-- `BankInRange` as a claim of the controller and the cartridge registers alone. -/
def BanksLegal (kind : CartKind) (c : Cart) : Prop :=
  match kind with
  | .noMbc => True
  | .mbc1 => c.romBank ≠ 0 ∧ c.romBank.toNat < 32 ∧ c.ramBank.toNat < 4
  | .mbc3 => c.romBank ≠ 0 ∧ c.romBank.toNat < 128
  | .mbc5 => True

theorem bankInRange_iff (s : State) : BankInRange s ↔ BanksLegal s.cfg.kind s.cart := Iff.rfl

/-- Five bits with bank 0 moved to 1 (R94). -/
theorem remapZeroBank_five : ∀ v : Byte, remapZeroBank (v &&& 0x1F#8) ≠ 0 ∧ (remapZeroBank (v &&& 0x1F#8)).toNat < 32 := by
  decide

/-- Seven bits with bank 0 moved to 1 (R100). -/
theorem remapZeroBank_seven :
    ∀ v : Byte, remapZeroBank (v &&& 0x7F#8) ≠ 0 ∧ (remapZeroBank (v &&& 0x7F#8)).toNat < 128 := by
  decide

theorem twoBits_lt : ∀ v : Byte, ((v &&& 0x03#8).setWidth 4).toNat < 4 := by decide

theorem banksLegal_bankWrite {kind : CartKind} (n : Nat) (v : Byte) {c : Cart} (h : BanksLegal kind c) :
    BanksLegal kind (bankWrite kind n v c) := by
  cases kind with
  | noMbc => trivial
  | mbc5 => trivial
  | mbc1 =>
    obtain ⟨hrom, hromLt, hram⟩ := h
    obtain ⟨hnew, hnewLt⟩ := remapZeroBank_five v
    unfold bankWrite
    simp only
    split_ifs
    · exact ⟨hrom, hromLt, hram⟩
    · exact ⟨hnew, hnewLt, hram⟩
    · exact ⟨hrom, hromLt, twoBits_lt v⟩
    · exact ⟨hrom, hromLt, hram⟩
  | mbc3 =>
    unfold bankWrite
    simp only
    split_ifs
    · exact h
    · exact remapZeroBank_seven v
    · exact h
    · exact h

theorem banksLegal_cartWrite (n : Nat) (v : Byte) {s : State} (h : BanksLegal s.cfg.kind s.cart) :
    BanksLegal s.cfg.kind (cartWrite n v s).cart := by
  rcases cartWrite_cart_cases n v s with ⟨now, armed, hc⟩ | ⟨-, hc⟩ | ⟨i, -, hc⟩ <;> rw [hc]
  · exact h
  · exact banksLegal_bankWrite n v h
  · exact h

theorem touch_bankInRange {s t : State} (h : Touch s t) (hs : BankInRange s) : BankInRange t := by
  cases h with
  | store a v hc =>
    rw [bankInRange_iff] at hs ⊢
    generalize locate false a = t
    cases t with
    | cart n =>
      simp only [writeTarget, cartWrite_cfg]
      exact banksLegal_cartWrite n v hs
    | io r => cases r <;> exact hs
    | boot | vram | wram | oam | reserved | port | hram | ie | uncovered => exact hs
  | regs | irq | ports | marks | fault => exact hs

theorem tick1_bankInRange {s : State} (hs : BankInRange s) : BankInRange (tick1 s).state := by
  rw [bankInRange_iff] at hs ⊢
  rwa [(tick1_frame s).cart, (tick1_frame s).cfg]

/-- Settles O22: a write of the bank register stores its masked bits, with 0 moved to 1; no other change reaches it. -/
theorem bankRegistersStayLegal : Obligations.BankRegistersStayLegal :=
  fun _ _ hs h => step_keeps (fun _ _ => touch_bankInRange) (fun _ => tick1_bankInRange) h hs

/-! ## What is final -/

/-- The configuration of `s`, and the overlay off where it is off in `s`. -/
def KeepsFinal (s t : State) : Prop := t.cfg = s.cfg ∧ (s.bootEnabled = false → t.bootEnabled = false)

theorem writeTarget_bootEnabled_off (t : Target) (v : Byte) {s : State} (h : s.bootEnabled = false) :
    (writeTarget t v s).bootEnabled = false := by
  by_cases hoff : t = .io .bootOff
  · subst hoff
    rfl
  · rwa [writeTarget_bootEnabled v s hoff]

theorem touch_keepsFinal {s t u : State} (h : Touch t u) (ht : KeepsFinal s t) : KeepsFinal s u := by
  cases h with
  | store a v hc =>
    obtain ⟨hcfg, hboot⟩ := ht
    obtain ⟨-, -, -, -, -, -, hcfg', -, -⟩ := writeTarget_cpu (locate false a) v t
    exact ⟨hcfg'.trans hcfg, fun h => writeTarget_bootEnabled_off _ v (hboot h)⟩
  | regs | irq | ports | marks | fault => exact ht

theorem tick1_keepsFinal {s t : State} (ht : KeepsFinal s t) : KeepsFinal s (tick1 t).state := by
  unfold KeepsFinal
  rwa [(tick1_frame t).cfg, (tick1_frame t).boot]

theorem afterEffect_raised_fault {n : Nat} {s t : State} (h : afterEffect n s = .raised t) : t.fault.isSome = true := by
  unfold afterEffect at h
  split_ifs at h with hf
  · cases h
    exact hf
  · exact tickN_raised h

/-- A step that does not fault is an idle M-cycle or an instruction's effect, and the end of the step. -/
theorem step_cases_of_no_fault {s t : State} (h : step s = .next t) (hf : t.fault = none) :
    t = endStep (tickN 4 (beginStep s)) ∨
    ∃ i u w, fetchInstr (beginStep s) = .ok i u ∧ exec i u = .next w ∧ t = endStep (afterEffect (cost i u) w) := by
  obtain ⟨-, ⟨-, rfl⟩ | ⟨-, hr⟩ | ⟨-, hx⟩⟩ := step_cases h
  · exact .inl rfl
  · have := fetchInstr_raised_fault hr
    rw [hf] at this
    cases this
  · exact .inr hx

/-- Settles O20: the end of a step clears the pending enable, and no change touches the configuration or turns the overlay
on. -/
theorem stepsNeverUndoWhatIsFinal : Obligations.StepsNeverUndoWhatIsFinal := by
  refine ⟨fun s t h hf => ?_, fun s t h => ?_⟩
  · rcases step_cases_of_no_fault h hf with rfl | ⟨i, u, w, -, -, rfl⟩
    · exact endStep_pending (fun _ => tickN_raised) hf
    · exact endStep_pending (fun _ => afterEffect_raised_fault) hf
  · exact step_keeps (P := KeepsFinal s) (fun _ _ => touch_keepsFinal) (fun _ => tick1_keepsFinal) h ⟨rfl, id⟩

/-! ## The clock -/

theorem touch_clock {s t : State} (h : Touch s t) : t.clock = s.clock := by
  cases h with
  | store a v hc =>
    obtain ⟨-, -, -, -, -, hclock, -⟩ := writeTarget_cpu (locate false a) v s
    exact hclock
  | regs | irq | ports | marks | fault => rfl

theorem touches_clock {s t : State} (h : Touches s t) : t.clock = s.clock := by
  induction h with
  | refl => rfl
  | tail _ h ih => rw [touch_clock h, ih]

/-- The dispatch check takes 20 T-cycles or none. -/
theorem dispatchCheck_clock {s t : State} (h : dispatchCheck s = .ok () t) :
    t.clock = s.clock ∨ t.clock = s.clock + 20 := by
  unfold dispatchCheck at h
  split at h
  · split at h
    · rename_i k _
      obtain ⟨u, hu, hd | hd⟩ := touches_dispatch k s <;> rw [hd] at h
      · cases h
      · right
        rw [(tickN_ok h).1, touches_clock hu]
    · cases h
      exact .inl rfl
  · cases h
    exact .inl rfl

/-- The end of a step that does not fault takes 20 T-cycles or none, after a result that did not raise. -/
theorem endStep_clock {r : Res Unit} (hr : ∀ u, r = .raised u → u.fault.isSome = true)
    (hf : (endStep r).fault = none) :
    ∃ u, r = .ok () u ∧ ((endStep r).clock = u.clock ∨ (endStep r).clock = u.clock + 20) := by
  cases r with
  | raised u =>
    have := hr u rfl
    have hu : u.fault = none := hf
    rw [hu] at this
    cases this
  | ok a u =>
    refine ⟨u, rfl, ?_⟩
    unfold endStep at hf ⊢
    rw [Res.bind_ok] at hf ⊢
    cases hd : dispatchCheck u with
    | raised v =>
      have := dispatch_raised_fault hd
      rw [hd] at hf
      have hv : v.fault = none := hf
      rw [hv] at this
      cases this
    | ok b v =>
      have hclock : (applyImePending v).clock = v.clock := touches_clock (touches_applyImePending v)
      rw [Res.bind_ok, Res.state_ok, hclock]
      exact dispatchCheck_clock hd

/-- From one to six M-cycles, in T-cycles. -/
def InstructionTime (n : Nat) : Prop := n % 4 = 0 ∧ 4 ≤ n ∧ n ≤ 24

theorem cbCost_time (b : Byte) : InstructionTime (cbCost b) := by
  unfold cbCost InstructionTime
  split
  · decide
  · split <;> decide

/-- An instruction costs one to six M-cycles, or its effect is a fault (70_reset_and_hazards.md R421). -/
theorem cost_time (i : Instr) (s : State) : (∃ k, exec i s = .next (raiseFault k s)) ∨ InstructionTime (cost i s) := by
  cases i
  case stop | illegal_d3 | illegal_db | illegal_dd | illegal_e3 | illegal_e4 | illegal_eb | illegal_ec | illegal_ed
    | illegal_f4 | illegal_fc | illegal_fd => exact .inl ⟨_, rfl⟩
  case prefixCb b => exact .inr (cbCost_time b)
  case jr_nz_e | jr_z_e | jr_nc_e | jr_c_e | ret_nz | jp_nz_nn | call_nz_nn | ret_z | jp_z_nn | call_z_nn | ret_nc
    | jp_nc_nn | call_nc_nn | ret_c | jp_c_nn | call_c_nn =>
    right
    change InstructionTime (if s.cond _ then _ else _)
    unfold InstructionTime
    split <;> decide
  all_goals
    right
    change InstructionTime (OfNat.ofNat _)
    unfold InstructionTime
    decide

/-- Settles O21: the effect takes no time, `Tick` the cost of the instruction, the dispatch 20 T-cycles or none. -/
theorem stepTakesWholeMachineCycles : Obligations.StepTakesWholeMachineCycles := by
  intro s t h hf
  have hbegin : (beginStep s).clock = s.clock := beginStep_clock s
  have hwhole : ∃ n, InstructionTime n ∧ (t.clock = s.clock + n ∨ t.clock = s.clock + n + 20) := by
    rcases step_cases_of_no_fault h hf with rfl | ⟨i, u, w, hfetch, hexec, rfl⟩
    · obtain ⟨v, hv, hend⟩ := endStep_clock (fun _ => tickN_raised) hf
      refine ⟨4, by unfold InstructionTime; decide, ?_⟩
      rwa [(tickN_ok hv).1, hbegin] at hend
    · obtain ⟨v, hv, hend⟩ := endStep_clock (fun _ => afterEffect_raised_fault) hf
      have hu : u.clock = s.clock := by
        have := touches_clock (touches_fetchInstr (beginStep s))
        rwa [hfetch, hbegin] at this
      have hw : w.clock = u.clock := touches_clock (exec_touches hexec)
      unfold afterEffect at hv
      split_ifs at hv with hfault
      have htime := (cost_time i u).resolve_left fun ⟨k, hk⟩ => by
        rw [hexec] at hk
        cases hk
        exact hfault rfl
      refine ⟨cost i u, htime, ?_⟩
      rwa [(tickN_ok hv).1, hw, hu] at hend
  obtain ⟨n, ⟨hmod, hmin, hmax⟩, hclock⟩ := hwhole
  rcases hclock with hclock | hclock
  · exact ⟨n / 4, by omega, by omega, by omega⟩
  · exact ⟨n / 4 + 5, by omega, by omega, by omega⟩

end Sys2Proof.Machine
end

section
/-! PROOFS. The PPU (60_exceptions.md R370 to R391): what each stage of a dot leaves alone and that it keeps the ranges of
10_state.md R39, then the statements about its counters, modes, requests, sprite merge and compositor. -/

namespace Sys2Proof.Machine

/-! ## What a dot's work keeps -/

/-- The registers and counters that the work of a dot leaves alone. -/
structure DotFrame (p q : Ppu) : Prop where
  lcdc        : q.lcdc = p.lcdc
  statEn      : q.statEn = p.statEn
  ly          : q.ly = p.ly
  lyc         : q.lyc = p.lyc
  dot         : q.dot = p.dot
  coincidence : q.coincidence = p.coincidence

theorem DotFrame.rfl {p : Ppu} : DotFrame p p := ⟨Eq.refl _, Eq.refl _, Eq.refl _, Eq.refl _, Eq.refl _, Eq.refl _⟩

theorem DotFrame.trans {p q r : Ppu} (h : DotFrame p q) (h' : DotFrame q r) : DotFrame p r :=
  ⟨h'.lcdc.trans h.lcdc, h'.statEn.trans h.statEn, h'.ly.trans h.ly, h'.lyc.trans h.lyc, h'.dot.trans h.dot,
    h'.coincidence.trans h.coincidence⟩

/-- What a change by the window, the fetchers or the merge keeps. -/
structure PipeKeeps (p q : Ppu) : Prop extends DotFrame p q where
  mode  : q.mode = p.mode
  lx    : q.lx = p.lx
  range : PpuInRange p → PpuInRange q

theorem PipeKeeps.rfl {p : Ppu} : PipeKeeps p p := ⟨.rfl, Eq.refl _, Eq.refl _, id⟩

theorem PipeKeeps.trans {p q r : Ppu} (h : PipeKeeps p q) (h' : PipeKeeps q r) : PipeKeeps p r :=
  ⟨h.toDotFrame.trans h'.toDotFrame, h'.mode.trans h.mode, h'.lx.trans h.lx, h'.range ∘ h.range⟩

/-- At most the `STAT` request, bit 1 of `IF`. -/
def StatOnly (m : Byte) : Prop := m = 0x00#8 ∨ m = 0x02#8

theorem StatOnly.or {m n : Byte} (hm : StatOnly m) (hn : StatOnly n) : StatOnly (m ||| n) := by
  rcases hm with rfl | rfl <;> rcases hn with rfl | rfl <;> unfold StatOnly <;> decide

theorem StatOnly.bit {m : Byte} (h : StatOnly m) {i : Nat} (hi : i ≠ 1) : bitAt m i = false := by
  rcases h with rfl | rfl
  · simp [bitAt]
  · rw [bitAt, BitVec.getLsbD_ofNat]
    rcases i with _ | _ | i
    · rfl
    · exact absurd rfl hi
    · simp [Nat.testBit_add_one]

/-- What a stage of a dot on a visible line keeps. -/
structure StageKeeps (o o' : PpuOut) : Prop where
  frame : DotFrame o.ppu o'.ppu
  raise : StatOnly o.raise → StatOnly o'.raise
  range : o.ppu.lcdOn = true → PpuInRange o.ppu → PpuInRange o'.ppu

theorem StageKeeps.rfl {o : PpuOut} : StageKeeps o o := ⟨.rfl, id, fun _ => id⟩

theorem StageKeeps.trans {o o' o'' : PpuOut} (h : StageKeeps o o') (h' : StageKeeps o' o'') : StageKeeps o o'' where
  frame := h.frame.trans h'.frame
  raise := h'.raise ∘ h.raise
  range hon hr := h'.range (by unfold Ppu.lcdOn Ppu.lcdcBit; rw [h.frame.lcdc]; exact hon) (h.range hon hr)

@[simp] theorem raiseIf_ppu (o : PpuOut) (c : Bool) (m : Byte) : (o.raiseIf c m).ppu = o.ppu := by
  unfold PpuOut.raiseIf; split <;> rfl

@[simp] theorem raiseIf_pixel (o : PpuOut) (c : Bool) (m : Byte) : (o.raiseIf c m).pixel = o.pixel := by
  unfold PpuOut.raiseIf; split <;> rfl

@[simp] theorem raiseIf_raise (o : PpuOut) (c : Bool) (m : Byte) :
    (o.raiseIf c m).raise = o.raise ||| if c then m else 0x00#8 := by
  unfold PpuOut.raiseIf
  split
  · rfl
  · exact BitVec.or_zero.symm

theorem statOnly_ite (c : Bool) : StatOnly (if c then 0x02#8 else 0x00#8) := by
  cases c
  · exact .inl rfl
  · exact .inr rfl

/-! ## The lists -/

@[simp] theorem length_backupOf (fifo : List PixelFifoEntry) : (backupOf fifo).length = 8 := rfl

@[simp] theorem length_tileRow (p : Ppu) : p.tileRow.length = 8 := rfl

@[simp] theorem length_splice (saved : List (Option PixelFifoEntry)) (fifo : List PixelFifoEntry) :
    (splice saved fifo).length = fifo.length := by
  induction saved generalizing fifo with
  | nil => rfl
  | cons e saved ih =>
    cases fifo with
    | nil => rfl
    | cons f fifo => exact congrArg (· + 1) (ih fifo)

/-- The colour index of the sprite's pixel `i`, after the horizontal flip (R384). -/
def Ppu.pixelIndex (p : Ppu) (sp : Sprite) (i : Nat) : BitVec 2 :=
  colourIndex p.spHi p.spLo (if bitAt sp.attr 5 then i else 7 - i)

/-- What the sprite's pixel `i` makes of the entry in its column (R384). -/
def Ppu.mergeEntry (p : Ppu) (sp : Sprite) (i : Nat) (e : PixelFifoEntry) : PixelFifoEntry :=
  if e.fromSprite = false ∧ p.pixelIndex sp i ≠ 0 ∧ ¬(bitAt sp.attr 7 = true ∧ e.ci ≠ 0) then
    { ci := p.pixelIndex sp i, pal := if bitAt sp.attr 4 then .obj1 else .obj0, fromSprite := true }
  else e

/-- `mergePixel` changes the entry of one column, if the FIFO has it. -/
theorem mergePixel_eq_modify (p : Ppu) (sp : Sprite) (fifo : List PixelFifoEntry) (i : Nat) :
    p.mergePixel sp fifo i = if sp.x.toNat + i < p.lx + 8 then fifo
      else fifo.modify (sp.x.toNat + i - 8 - p.lx) (p.mergeEntry sp i) := by
  change (if sp.x.toNat + i < p.lx + 8 then fifo else
    match fifo[sp.x.toNat + i - 8 - p.lx]? with
    | none => fifo
    | some e =>
      if e.fromSprite = false ∧ p.pixelIndex sp i ≠ 0 ∧ ¬(bitAt sp.attr 7 = true ∧ e.ci ≠ 0) then
        fifo.set (sp.x.toNat + i - 8 - p.lx)
          { ci := p.pixelIndex sp i, pal := if bitAt sp.attr 4 then .obj1 else .obj0, fromSprite := true }
      else fifo) = _
  split
  · rfl
  · rw [List.modify_eq_set_getElem?]
    cases he : fifo[sp.x.toNat + i - 8 - p.lx]? with
    | none => rfl
    | some e =>
      change _ = fifo.set _ (p.mergeEntry sp i e)
      unfold Ppu.mergeEntry
      dsimp only
      split
      · rfl
      · obtain ⟨hk, rfl⟩ := List.getElem?_eq_some_iff.1 he
        exact (List.set_getElem_self hk).symm

theorem length_mergePixel (p : Ppu) (sp : Sprite) (fifo : List PixelFifoEntry) (i : Nat) :
    (p.mergePixel sp fifo i).length = fifo.length := by
  rw [mergePixel_eq_modify]
  split
  · rfl
  · exact List.length_modify _ _ _

theorem length_foldl_mergePixel (p : Ppu) (sp : Sprite) (l : List Nat) (fifo : List PixelFifoEntry) :
    (l.foldl (p.mergePixel sp) fifo).length = fifo.length := by
  induction l generalizing fifo with
  | nil => rfl
  | cons i l ih => rw [List.foldl_cons, ih, length_mergePixel]

@[simp] theorem length_spriteMerge (p : Ppu) (sp : Sprite) : (p.spriteMerge sp).fifo.length = p.fifo.length :=
  length_foldl_mergePixel p sp _ p.fifo

/-! ## The window, the fetchers and the merge -/

theorem windowCheck_keeps (p : Ppu) : PipeKeeps p p.windowCheck := by
  unfold Ppu.windowCheck
  split
  · refine ⟨⟨rfl, rfl, rfl, rfl, rfl, rfl⟩, rfl, rfl, fun h => ?_⟩
    have hdiscard : (if p.wx.toNat < 7 then 7 - p.wx.toNat else 0) ≤ 7 := by split <;> omega
    exact { h with
      fifo_le := Nat.zero_le _
      fetchX_lt := Nat.succ_pos _
      discard_le := hdiscard
      backup_length := length_backupOf p.fifo }
  · exact .rfl

theorem bgAct_keeps (vram : Memory) (p : Ppu) : PipeKeeps p (p.bgAct vram) := by
  unfold Ppu.bgAct
  split
  case h_5 => exact .rfl
  all_goals exact ⟨⟨rfl, rfl, rfl, rfl, rfl, rfl⟩, rfl, rfl, fun h => { h with }⟩

/-- A push makes at most 16 entries of at most 8. -/
theorem push8_keeps {p : Ppu} (hroom : p.fifo.length ≤ 8) : PipeKeeps p p.push8 := by
  unfold Ppu.push8
  split
  · exact ⟨⟨rfl, rfl, rfl, rfl, rfl, rfl⟩, rfl, rfl, fun h => { h with
      fifo_le := by simp
      backup_length := rfl }⟩
  · exact ⟨⟨rfl, rfl, rfl, rfl, rfl, rfl⟩, rfl, rfl, fun h => { h with
      fifo_le := by simp; omega }⟩

theorem bgFetchDot_keeps (vram : Memory) (p : Ppu) : PipeKeeps p (p.bgFetchDot vram) := by
  unfold Ppu.bgFetchDot
  split
  · split
    · refine (push8_keeps ‹_›).trans ⟨⟨rfl, rfl, rfl, rfl, rfl, rfl⟩, rfl, rfl, fun h => { h with
        fetchX_lt := Nat.mod_lt _ (by decide) }⟩
    · exact .rfl
  · split
    · exact .trans (q := { p with bgWait := false })
        ⟨⟨rfl, rfl, rfl, rfl, rfl, rfl⟩, rfl, rfl, fun h => { h with }⟩ (bgAct_keeps vram _)
    · exact ⟨⟨rfl, rfl, rfl, rfl, rfl, rfl⟩, rfl, rfl, fun h => { h with }⟩

theorem spriteTrigger_keeps {p q : Ppu} (hq : p.spriteTrigger = some q) : PipeKeeps p q := by
  unfold Ppu.spriteTrigger at hq
  split at hq
  · cases hq
  · split at hq
    · cases hq
    · cases hq
      exact ⟨⟨rfl, rfl, rfl, rfl, rfl, rfl⟩, rfl, rfl, fun h => { h with }⟩

theorem spriteFetchDot_keeps (vram : Memory) (p : Ppu) : PipeKeeps p (p.spriteFetchDot vram) := by
  unfold Ppu.spriteFetchDot
  dsimp only
  split
  case h_4 =>
    exact ⟨⟨rfl, rfl, rfl, rfl, rfl, rfl⟩, rfl, rfl, fun h => { h with
      fifo_le := (length_spriteMerge p p.curSprite).trans_le h.fifo_le }⟩
  all_goals
    split
    all_goals exact ⟨⟨rfl, rfl, rfl, rfl, rfl, rfl⟩, rfl, rfl, fun h => { h with }⟩

/-! ## The compositor and the drawing dot -/

/-- While drawing, a pixel leaves `lx` below 160, or at 160 in HBlank. -/
theorem compositorDot_keeps {o : PpuOut} (hmode : o.ppu.mode = .drawing) : StageKeeps o o.compositorDot := by
  unfold PpuOut.compositorDot
  split
  · cases hfifo : o.ppu.fifo with
    | nil => exact .rfl
    | cons e rest =>
      have hrest : PpuInRange o.ppu → rest.length ≤ 16 := fun h => by
        have := h.fifo_le
        rw [hfifo, List.length_cons] at this
        omega
      dsimp only
      split
      · exact ⟨⟨rfl, rfl, rfl, rfl, rfl, rfl⟩, id, fun _ h => { h with
          fifo_le := hrest h
          discard_le := (Nat.sub_le _ _).trans h.discard_le }⟩
      · split
        · rename_i hlx
          refine ⟨?_, ?_, fun _ h => ?_⟩
          · unfold PpuOut.enterHBlank
            rw [raiseIf_ppu]
            exact ⟨rfl, rfl, rfl, rfl, rfl, rfl⟩
          · unfold PpuOut.enterHBlank
            rw [raiseIf_raise]
            exact fun h => h.or (statOnly_ite _)
          · unfold PpuOut.enterHBlank
            rw [raiseIf_ppu]
            exact { h with
              fifo_le := hrest h
              lx_le := Nat.le_of_eq hlx
              drawing_lx := fun hm => nomatch hm
              off_is_idle := fun hoff => ⟨rfl, (h.off_is_idle hoff).2⟩ }
        · rename_i hlx
          refine ⟨⟨rfl, rfl, rfl, rfl, rfl, rfl⟩, id, fun _ h => ?_⟩
          have hlt := h.drawing_lx hmode
          have hne : o.ppu.lx + 1 ≠ 160 := hlx
          exact { h with
            fifo_le := hrest h
            lx_le := hlt
            drawing_lx := fun _ => by
              change o.ppu.lx + 1 < 160
              omega }
  · exact .rfl

theorem StageKeeps.of_pipe {o : PpuOut} {q : Ppu} (h : PipeKeeps o.ppu q) : StageKeeps o { o with ppu := q } :=
  ⟨h.toDotFrame, id, fun _ => h.range⟩

theorem drawingDot_keeps (vram : Memory) {o : PpuOut} (hmode : o.ppu.mode = .drawing) :
    StageKeeps o (o.drawingDot vram) := by
  unfold PpuOut.drawingDot
  have hw := windowCheck_keeps o.ppu
  split
  · exact .of_pipe (spriteFetchDot_keeps vram o.ppu)
  · dsimp only
    cases ht : o.ppu.windowCheck.spriteTrigger with
    | some q => exact .of_pipe (hw.trans ((spriteTrigger_keeps ht).trans (spriteFetchDot_keeps vram q)))
    | none =>
      have hb := hw.trans (bgFetchDot_keeps vram o.ppu.windowCheck)
      exact (StageKeeps.of_pipe hb).trans (compositorDot_keeps (by rw [← hmode]; exact hb.mode))

/-! ## The stages of a visible dot -/

/-- `EnterOamScan` at the first dot. -/
def PpuOut.scanEntry (o : PpuOut) : PpuOut := if o.ppu.dot = 0 then o.enterOamScan else o

/-- `OamScanStep` at each even dot of the scan. -/
def PpuOut.scanStage (oam : Memory) (o : PpuOut) : PpuOut :=
  if o.ppu.dot ≤ 79 ∧ o.ppu.dot % 2 = 0 then { o with ppu := o.ppu.oamScanStep oam } else o

/-- `EnterDrawing` at dot 80. -/
def PpuOut.drawEntry (o : PpuOut) : PpuOut := if o.ppu.dot = 80 then { o with ppu := o.ppu.enterDrawing } else o

/-- `DrawingDot` while drawing. -/
def PpuOut.drawStage (vram : Memory) (o : PpuOut) : PpuOut := if o.ppu.mode = .drawing then o.drawingDot vram else o

theorem visibleDot_eq (vram oam : Memory) (o : PpuOut) :
    o.visibleDot vram oam = (((o.scanEntry).scanStage oam).drawEntry).drawStage vram := rfl

theorem lcdOn_absurd {p : Ppu} {P : Prop} (hon : p.lcdOn = true) (hoff : p.lcdOn = false) : P := by
  rw [hon] at hoff
  cases hoff

theorem scanEntry_keeps (o : PpuOut) : StageKeeps o o.scanEntry := by
  unfold PpuOut.scanEntry
  split
  · unfold PpuOut.enterOamScan
    refine ⟨?_, ?_, fun hon h => ?_⟩
    · rw [raiseIf_ppu]
      exact ⟨rfl, rfl, rfl, rfl, rfl, rfl⟩
    · rw [raiseIf_raise]
      exact fun h => h.or (statOnly_ite _)
    · rw [raiseIf_ppu]
      exact { h with
        drawing_lx := fun hm => nomatch hm
        sprites_le := Nat.zero_le _
        off_is_idle := lcdOn_absurd (p := o.ppu) hon }
  · exact .rfl

theorem oamScanStep_keeps (oam : Memory) (p : Ppu) : PipeKeeps p (p.oamScanStep oam) := by
  unfold Ppu.oamScanStep
  dsimp only
  split
  · rename_i hroom
    refine ⟨⟨rfl, rfl, rfl, rfl, rfl, rfl⟩, rfl, rfl, fun h => { h with sprites_le := ?_ }⟩
    rw [List.length_append, List.length_singleton]
    omega
  · exact .rfl

theorem scanStage_keeps (oam : Memory) (o : PpuOut) : StageKeeps o (o.scanStage oam) := by
  unfold PpuOut.scanStage
  split
  · exact .of_pipe (oamScanStep_keeps oam o.ppu)
  · exact .rfl

theorem drawEntry_keeps (o : PpuOut) : StageKeeps o o.drawEntry := by
  unfold PpuOut.drawEntry
  split
  · exact ⟨⟨rfl, rfl, rfl, rfl, rfl, rfl⟩, id, fun hon h => { h with
      lx_le := Nat.zero_le _
      drawing_lx := fun _ => Nat.succ_pos _
      fifo_le := Nat.zero_le _
      fetchX_lt := Nat.succ_pos _
      discard_le := Nat.le_of_lt_succ (Nat.mod_lt _ (by decide))
      backup_length := rfl
      off_is_idle := lcdOn_absurd (p := o.ppu) hon }⟩
  · exact .rfl

theorem drawStage_keeps (vram : Memory) (o : PpuOut) : StageKeeps o (o.drawStage vram) := by
  unfold PpuOut.drawStage
  split
  · exact drawingDot_keeps vram ‹_›
  · exact .rfl

theorem visibleDot_keeps (vram oam : Memory) (o : PpuOut) : StageKeeps o (o.visibleDot vram oam) :=
  (scanEntry_keeps o).trans ((scanStage_keeps oam _).trans ((drawEntry_keeps _).trans (drawStage_keeps vram _)))

/-! ## The tick -/

theorem dotWork_visible {o : PpuOut} (vram oam : Memory) (h : o.ppu.ly.toNat ≤ 143) :
    o.dotWork vram oam = o.visibleDot vram oam := if_pos h

theorem dotWork_vblankEntry {o : PpuOut} (vram oam : Memory) (h : o.ppu.ly.toNat = 144 ∧ o.ppu.dot = 0) :
    o.dotWork vram oam = o.enterVBlank := by
  unfold PpuOut.dotWork
  rw [if_neg (by omega), if_pos h]

theorem dotWork_vblank {o : PpuOut} (vram oam : Memory) (h : 144 ≤ o.ppu.ly.toNat)
    (h' : ¬(o.ppu.ly.toNat = 144 ∧ o.ppu.dot = 0)) : o.dotWork vram oam = o := by
  unfold PpuOut.dotWork
  rw [if_neg (by omega), if_neg h']

theorem enterVBlank_ppu (o : PpuOut) : o.enterVBlank.ppu = { o.ppu with mode := .vblank } := by
  unfold PpuOut.enterVBlank
  rw [raiseIf_ppu]

theorem enterVBlank_raise (o : PpuOut) :
    o.enterVBlank.raise = o.raise ||| 0x01#8 ||| if o.ppu.statEn.getLsbD 1 then 0x02#8 else 0x00#8 := by
  unfold PpuOut.enterVBlank
  rw [raiseIf_raise]

/-- The work of any dot leaves the registers and counters alone, and keeps the ranges. -/
theorem dotWork_keeps (vram oam : Memory) (o : PpuOut) : DotFrame o.ppu (o.dotWork vram oam).ppu ∧
    (o.ppu.lcdOn = true → PpuInRange o.ppu → PpuInRange (o.dotWork vram oam).ppu) := by
  by_cases hv : o.ppu.ly.toNat ≤ 143
  · rw [dotWork_visible vram oam hv]
    exact ⟨(visibleDot_keeps vram oam o).frame, (visibleDot_keeps vram oam o).range⟩
  · by_cases he : o.ppu.ly.toNat = 144 ∧ o.ppu.dot = 0
    · rw [dotWork_vblankEntry vram oam he, enterVBlank_ppu]
      exact ⟨⟨rfl, rfl, rfl, rfl, rfl, rfl⟩, fun hon h => { h with
        drawing_lx := fun hm => nomatch hm
        off_is_idle := lcdOn_absurd (p := o.ppu) hon }⟩
    · rw [dotWork_vblank vram oam (by omega) he]
      exact ⟨.rfl, fun _ => id⟩

theorem tick_off {p : Ppu} (vram oam : Memory) (h : p.lcdOn = false) : p.tick vram oam = ⟨p, 0, none⟩ := by
  unfold Ppu.tick
  rw [h]
  rfl

/-- What the work of the dot leaves, for the counters and the coincidence check that end the tick. -/
def Ppu.worked (vram oam : Memory) (p : Ppu) : PpuOut := PpuOut.dotWork vram oam ⟨p, 0, none⟩

theorem worked_frame (vram oam : Memory) (p : Ppu) : DotFrame p (p.worked vram oam).ppu :=
  (dotWork_keeps vram oam ⟨p, 0, none⟩).1

theorem tick_on {p : Ppu} (vram oam : Memory) (h : p.lcdOn = true) : p.tick vram oam =
    ({ p.worked vram oam with ppu := (p.worked vram oam).ppu.advanceDot } : PpuOut).coincidenceCheck := by
  unfold Ppu.tick
  rw [if_pos h]
  rfl

/-- The PPU after a tick: the counters advanced, the coincidence flag compared. -/
theorem tick_on_ppu {p : Ppu} (vram oam : Memory) (h : p.lcdOn = true) : (p.tick vram oam).ppu =
    { (p.worked vram oam).ppu.advanceDot with
      coincidence := (p.worked vram oam).ppu.advanceDot.ly == (p.worked vram oam).ppu.advanceDot.lyc } := by
  rw [tick_on vram oam h]
  exact raiseIf_ppu _ _ _

/-- `AdvanceDot` changes the counters and what the end of a frame resets, nothing else. -/
theorem advanceDot_frame (p : Ppu) :
    p.advanceDot = { p with dot := p.advanceDot.dot, ly := p.advanceDot.ly, winLine := p.advanceDot.winLine,
                            skipFrame := p.advanceDot.skipFrame } := by
  unfold Ppu.advanceDot
  split
  · split <;> rfl
  · rfl

/-- `AdvanceDot` counts one T-cycle in line and dot, modulo the frame (R373). -/
theorem advanceDot_counts {p : Ppu} (hdot : p.dot < 456) (hly : p.ly.toNat < 154) :
    p.advanceDot.dot < 456 ∧ p.advanceDot.ly.toNat < 154 ∧
    p.advanceDot.ly.toNat * 456 + p.advanceDot.dot = (p.ly.toNat * 456 + p.dot + 1) % 70224 := by
  unfold Ppu.advanceDot
  split
  · split
    · refine ⟨Nat.succ_pos _, Nat.succ_pos _, ?_⟩
      rw [show p.ly.toNat = 153 by omega, show p.dot = 455 by omega]
      simp
    · have hnext : (p.ly + 1).toNat = p.ly.toNat + 1 := by bv_omega
      dsimp only
      rw [hnext]
      omega
  · dsimp only
    omega

theorem advanceDot_range {p : Ppu} (hon : p.lcdOn = true) (h : PpuInRange p) : PpuInRange p.advanceDot := by
  obtain ⟨hdot, hly, -⟩ := advanceDot_counts h.dot_lt h.ly_lt
  rw [advanceDot_frame]
  exact { h with
    dot_lt := hdot
    ly_lt := hly
    off_is_idle := lcdOn_absurd (p := p) hon }

theorem lcdOn_congr {p q : Ppu} (h : q.lcdc = p.lcdc) : q.lcdOn = p.lcdOn := by
  unfold Ppu.lcdOn Ppu.lcdcBit
  rw [h]

theorem tick_range (vram oam : Memory) {p : Ppu} (h : PpuInRange p) : PpuInRange (p.tick vram oam).ppu := by
  cases hon : p.lcdOn with
  | false => rwa [tick_off vram oam hon]
  | true =>
    have hon' : (p.worked vram oam).ppu.lcdOn = true := (lcdOn_congr (worked_frame vram oam p).lcdc).trans hon
    have hr := advanceDot_range hon' ((dotWork_keeps vram oam ⟨p, 0, none⟩).2 hon h)
    rw [tick_on_ppu vram oam hon]
    exact { hr with }

theorem tick1_ppu (s : State) : (tick1 s).state.ppu = (s.ppu.tick s.vram s.oam).ppu := by
  rcases tick1_cases s with ⟨-, h⟩ | ⟨-, v, u, hr, h⟩ | ⟨-, -, h⟩ <;> rw [h]
  · simp only [Res.state_ok]
    rw [portTicks_frame, ppu_timer_frame]
  · simp only [Res.state_ok]
    rw [portTicks_frame, hr.frame, ppu_timer_frame]
  · simp only [Res.state_raised, busFaulted]
    rw [ppu_timer_frame]

/-! ## Writes of the PPU's registers -/

/-- A write of `LCDC` keeps the ranges: switched off, the PPU is in its forced state (R371). -/
theorem writeLcdc_range (v : Byte) {p : Ppu} (h : PpuInRange p) : PpuInRange (p.writeLcdc v) := by
  unfold Ppu.writeLcdc
  dsimp only
  split
  · exact {
      dot_lt := Nat.succ_pos _
      ly_lt := Nat.succ_pos _
      lx_le := Nat.zero_le _
      drawing_lx := fun hm => nomatch hm
      fifo_le := Nat.zero_le _
      sprites_le := Nat.zero_le _
      fetchX_lt := h.fetchX_lt
      discard_le := h.discard_le
      backup_length := rfl
      off_is_idle := fun _ => ⟨rfl, rfl, rfl⟩ }
  · split
    · exact { h with
        dot_lt := Nat.succ_pos _
        ly_lt := Nat.succ_pos _
        drawing_lx := fun hm => nomatch hm
        off_is_idle := fun _ => ⟨rfl, rfl, rfl⟩ }
    · rename_i hoff hstart
      refine { h with off_is_idle := fun hq => h.off_is_idle ?_ }
      cases hp : p.lcdOn with
      | false => rfl
      | true =>
        rw [hp, hq] at hoff
        exact absurd rfl hoff

theorem ppuInRange_writeTarget (t : Target) (v : Byte) {s : State} (h : PpuInRange s.ppu) :
    PpuInRange (writeTarget t v s).ppu := by
  cases t with
  | io r =>
    cases r
    case lcdc => exact writeLcdc_range v h
    case stat | scy | scx | lyc | bgp | obp0 | obp1 | wy | wx => exact { h with }
    all_goals exact h
  | cart n =>
    simp only [writeTarget]
    rw [cartWrite_frame]
    exact h
  | boot | vram | wram | oam | reserved | port | hram | ie | uncovered => exact h

theorem touch_ppuInRange {s t : State} (h : Touch s t) (hs : PpuInRange s.ppu) : PpuInRange t.ppu := by
  cases h with
  | store a v hc => exact ppuInRange_writeTarget _ v hs
  | regs | irq | ports | marks | fault => exact hs

/-- Settles O19: a register write and a PPU tick keep the ranges, and nothing else reaches the PPU. -/
theorem ppuStaysInRange : Obligations.PpuStaysInRange :=
  fun _ _ hs h => step_keeps (P := fun s => PpuInRange s.ppu) (fun _ _ => touch_ppuInRange)
    (fun s hs => by rw [tick1_ppu]; exact tick_range s.vram s.oam hs) h hs

/-- Settles O27: each tick counts one T-cycle in line and dot. -/
theorem frameIs70224Dots : Obligations.FrameIs70224Dots := by
  intro vram oam p n hon hdot hly q
  have hq : q = (fun x : Ppu => (x.tick vram oam).ppu)^[n] p := rfl
  clear_value q
  induction n generalizing q with
  | zero =>
    obtain rfl : q = p := hq
    refine ⟨hon, hdot, hly, ?_⟩
    rw [Nat.add_zero, Nat.mod_eq_of_lt (by omega)]
  | succ n ih =>
    rw [Function.iterate_succ_apply'] at hq
    obtain ⟨hon', hdot', hly', hpos'⟩ := ih _ rfl
    generalize (fun x : Ppu => (x.tick vram oam).ppu)^[n] p = r at hq hon' hdot' hly' hpos'
    have hf := worked_frame vram oam r
    rw [← hf.dot] at hdot'
    rw [← hf.ly] at hly'
    obtain ⟨hdot'', hly'', hpos''⟩ := advanceDot_counts hdot' hly'
    rw [hf.dot, hf.ly, hpos'] at hpos''
    have hlcdc : (r.worked vram oam).ppu.advanceDot.lcdc = r.lcdc := by rw [advanceDot_frame]; exact hf.lcdc
    rw [hq, tick_on_ppu vram oam hon']
    refine ⟨(lcdOn_congr (p := r) hlcdc).trans hon', hdot'', hly'', ?_⟩
    dsimp only
    rw [hpos'', Nat.mod_add_mod, Nat.add_assoc]

end Sys2Proof.Machine
end

section
/-! PROOFS. The PPU's statements but those of its ranges and counters (60_exceptions.md R370 to R390): the modes and requests
of one tick, the sprite merge slot by slot, the compositor, and the enable bit of `LCDC`. -/

namespace Sys2Proof.Machine

/-! ## The first drawing dot -/

/-- With fewer than eight entries no sprite fetch starts, and no pixel leaves. -/
theorem spriteTrigger_none {p : Ppu} (h : p.fifo.length < 8) : p.spriteTrigger = none := if_pos (.inr (.inr h))

theorem compositorDot_empty {o : PpuOut} (h : o.ppu.fifo.length ≤ 8) : o.compositorDot = o :=
  if_neg (Nat.not_lt.2 h)

/-- What the first dot after `EnterDrawing` shows: no pixel can leave yet. -/
structure DrawingStart (p : Ppu) : Prop where
  mode    : p.mode = .drawing
  idle    : p.spActive = false
  fifo    : p.fifo = []
  bgStep  : p.bgStep = .index
  spDone  : p.spDone = []

theorem windowCheck_start {p : Ppu} (h : DrawingStart p) :
    DrawingStart p.windowCheck ∧ p.windowCheck.scxL = p.scxL := by
  unfold Ppu.windowCheck
  split
  · exact ⟨⟨h.mode, h.idle, rfl, rfl, h.spDone⟩, rfl⟩
  · exact ⟨h, rfl⟩

theorem bgFetchDot_start (vram : Memory) {p : Ppu} (h : DrawingStart p) : (p.bgFetchDot vram).fifo = [] ∧
    (p.bgFetchDot vram).spDone = [] ∧ (p.bgFetchDot vram).scxL = p.scxL := by
  unfold Ppu.bgFetchDot Ppu.bgAct
  rw [if_neg (by rw [h.bgStep]; decide)]
  split
  · rw [h.bgStep]
    exact ⟨h.fifo, h.spDone, rfl⟩
  · exact ⟨h.fifo, h.spDone, rfl⟩

theorem drawingDot_start (vram : Memory) {o : PpuOut} (h : DrawingStart o.ppu) :
    (o.drawingDot vram).ppu.mode = .drawing ∧ (o.drawingDot vram).ppu.scxL = o.ppu.scxL ∧
    (o.drawingDot vram).ppu.lx = o.ppu.lx ∧ (o.drawingDot vram).ppu.spDone = [] := by
  obtain ⟨hw, hscx⟩ := windowCheck_start h
  obtain ⟨hfifo, hdone, hscx'⟩ := bgFetchDot_start vram hw
  have hb := (windowCheck_keeps o.ppu).trans (bgFetchDot_keeps vram o.ppu.windowCheck)
  have hnone : o.ppu.windowCheck.spriteTrigger = none := spriteTrigger_none (by rw [hw.fifo]; decide)
  unfold PpuOut.drawingDot
  rw [h.idle]
  dsimp only
  rw [hnone, if_neg Bool.false_ne_true]
  dsimp only
  rw [compositorDot_empty (by rw [hfifo]; exact Nat.zero_le _)]
  exact ⟨hb.mode.trans h.mode, hscx'.trans hscx, hb.lx, hdone⟩

/-! ## The stages, by dot -/

theorem scanEntry_other {o : PpuOut} (h : o.ppu.dot ≠ 0) : o.scanEntry = o := if_neg h
theorem drawEntry_other {o : PpuOut} (h : o.ppu.dot ≠ 80) : o.drawEntry = o := if_neg h
theorem drawStage_other (vram : Memory) {o : PpuOut} (h : o.ppu.mode ≠ .drawing) : o.drawStage vram = o := if_neg h
theorem scanStage_late (oam : Memory) {o : PpuOut} (h : 79 < o.ppu.dot) : o.scanStage oam = o := if_neg (by omega)

theorem scanStage_mode (oam : Memory) (o : PpuOut) : (o.scanStage oam).ppu.mode = o.ppu.mode := by
  unfold PpuOut.scanStage
  split
  · exact (oamScanStep_keeps oam o.ppu).mode
  · rfl

/-- During the scan the drawing stage does nothing. -/
theorem visibleDot_scan (vram oam : Memory) {o : PpuOut} (hdot : o.scanEntry.ppu.dot < 80)
    (hmode : o.scanEntry.ppu.mode = .oamScan) : o.visibleDot vram oam = o.scanEntry.scanStage oam := by
  have hdot' : (o.scanEntry.scanStage oam).ppu.dot ≠ 80 := by
    rw [(scanStage_keeps oam o.scanEntry).frame.dot]
    omega
  have hmode' : (o.scanEntry.scanStage oam).ppu.mode ≠ .drawing := by
    rw [scanStage_mode, hmode]
    decide
  rw [visibleDot_eq, drawEntry_other hdot', drawStage_other vram hmode']

theorem visibleDot_dot0 (vram oam : Memory) {o : PpuOut} (h : o.ppu.dot = 0) :
    (o.visibleDot vram oam).ppu.mode = .oamScan ∧ (o.visibleDot vram oam).ppu.sprites.length ≤ 1 ∧
    (o.visibleDot vram oam).raise = o.raise ||| if o.ppu.statEn.getLsbD 2 then 0x02#8 else 0x00#8 := by
  have hentry : o.scanEntry = o.enterOamScan := if_pos h
  have hppu : o.scanEntry.ppu = { o.ppu with mode := .oamScan, sprites := [] } := by
    rw [hentry]
    exact raiseIf_ppu _ _ _
  have hraise : o.scanEntry.raise = o.raise ||| if o.ppu.statEn.getLsbD 2 then 0x02#8 else 0x00#8 := by
    rw [hentry]
    exact raiseIf_raise _ _ _
  have hmode : o.scanEntry.ppu.mode = .oamScan := by rw [hppu]
  have hdot : o.scanEntry.ppu.dot = 0 := by rw [hppu]; exact h
  have hscan : o.scanEntry.scanStage oam = { o.scanEntry with ppu := o.scanEntry.ppu.oamScanStep oam } :=
    if_pos (by rw [hdot]; decide)
  rw [visibleDot_scan vram oam (by omega) hmode, scanStage_mode, hscan]
  refine ⟨hmode, ?_, hraise⟩
  dsimp only
  rw [hppu]
  unfold Ppu.oamScanStep
  dsimp only
  split
  · exact Nat.le_refl _
  · exact Nat.zero_le _

theorem visibleDot_scanning (vram oam : Memory) {o : PpuOut} (h0 : 0 < o.ppu.dot) (h80 : o.ppu.dot < 80)
    (hmode : o.ppu.mode = .oamScan) : (o.visibleDot vram oam).ppu.mode = .oamScan := by
  have hentry : o.scanEntry = o := scanEntry_other (by omega)
  rw [visibleDot_scan vram oam (by rwa [hentry]) (by rwa [hentry]), scanStage_mode, hentry, hmode]

theorem visibleDot_dot80 (vram oam : Memory) {o : PpuOut} (h : o.ppu.dot = 80) :
    (o.visibleDot vram oam).ppu.mode = .drawing ∧ (o.visibleDot vram oam).ppu.scxL = o.ppu.scx ∧
    (o.visibleDot vram oam).ppu.lx = 0 ∧ (o.visibleDot vram oam).ppu.spDone = [] := by
  have hentry : (o.scanEntry.scanStage oam).drawEntry = { o with ppu := o.ppu.enterDrawing } := by
    rw [scanEntry_other (by omega), scanStage_late oam (by omega)]
    exact if_pos h
  have hstart : DrawingStart o.ppu.enterDrawing := ⟨rfl, rfl, rfl, rfl, rfl⟩
  rw [visibleDot_eq, hentry]
  unfold PpuOut.drawStage
  rw [if_pos hstart.mode]
  exact drawingDot_start vram (o := { o with ppu := o.ppu.enterDrawing }) hstart

theorem visibleDot_drawn (vram oam : Memory) {o : PpuOut} (h : 80 < o.ppu.dot) (hmode : o.ppu.mode ≠ .drawing) :
    o.visibleDot vram oam = o := by
  rw [visibleDot_eq, scanEntry_other (by omega), scanStage_late oam (by omega), drawEntry_other (by omega),
    drawStage_other vram hmode]

/-! ## One tick of the machine -/

theorem ppuTick_ppu (s : State) : (ppuTick s).ppu = (s.ppu.tick s.vram s.oam).ppu := by
  unfold ppuTick
  dsimp only
  split <;> rfl

theorem ppuTick_ifl (s : State) : (ppuTick s).irq.ifl = s.irq.ifl ||| (s.ppu.tick s.vram s.oam).raise := by
  unfold ppuTick
  dsimp only
  split <;> rfl

theorem bitAt_or (m n : Byte) (i : Nat) : bitAt (m ||| n) i = (bitAt m i || bitAt n i) := BitVec.getLsbD_or

theorem bitAt_one_other {i : Nat} (h : i ≠ 0) : bitAt (0x00#8 ||| 0x01#8) i = false := by
  simp [bitAt, h]

theorem bitAt_ite_stat (c : Bool) : bitAt (if c then 0x02#8 else 0x00#8) 1 = c := by cases c <;> rfl

/-- The coincidence comparison of the tick requests bit 1 on an enabled rising edge. -/
def Ppu.coincidenceEdge (p q : Ppu) : Bool := (q.ly == q.lyc) && !p.coincidence && p.statEn.getLsbD 3

theorem tick_on_raise {p : Ppu} (vram oam : Memory) (h : p.lcdOn = true) : (p.tick vram oam).raise =
    (p.worked vram oam).raise ||| if p.coincidenceEdge (p.tick vram oam).ppu then 0x02#8 else 0x00#8 := by
  have hf := worked_frame vram oam p
  rw [tick_on_ppu vram oam h, tick_on vram oam h]
  unfold PpuOut.coincidenceCheck Ppu.coincidenceEdge
  rw [raiseIf_raise]
  dsimp only
  rw [advanceDot_frame]
  dsimp only
  rw [hf.coincidence, hf.statEn]

/-- What the tick keeps of the PPU after the work of the dot. -/
theorem tick_on_worked {p : Ppu} (vram oam : Memory) (h : p.lcdOn = true) :
    (p.tick vram oam).ppu.mode = (p.worked vram oam).ppu.mode ∧
    (p.tick vram oam).ppu.sprites = (p.worked vram oam).ppu.sprites ∧
    (p.tick vram oam).ppu.scxL = (p.worked vram oam).ppu.scxL ∧
    (p.tick vram oam).ppu.lx = (p.worked vram oam).ppu.lx ∧
    (p.tick vram oam).ppu.spDone = (p.worked vram oam).ppu.spDone ∧
    (p.tick vram oam).ppu.lyc = p.lyc ∧
    (p.tick vram oam).ppu.coincidence = decide ((p.tick vram oam).ppu.ly = (p.tick vram oam).ppu.lyc) := by
  rw [tick_on_ppu vram oam h, advanceDot_frame]
  exact ⟨rfl, rfl, rfl, rfl, rfl, (worked_frame vram oam p).lyc, rfl⟩

theorem worked_visible {p : Ppu} (vram oam : Memory) (h : p.ly.toNat ≤ 143) :
    p.worked vram oam = PpuOut.visibleDot vram oam ⟨p, 0, none⟩ := dotWork_visible vram oam h

theorem worked_vblankEntry {p : Ppu} (vram oam : Memory) (h : p.ly.toNat = 144 ∧ p.dot = 0) :
    p.worked vram oam = PpuOut.enterVBlank ⟨p, 0, none⟩ := dotWork_vblankEntry vram oam h

theorem worked_vblank {p : Ppu} (vram oam : Memory) (h : 144 ≤ p.ly.toNat) (h' : ¬(p.ly.toNat = 144 ∧ p.dot = 0)) :
    p.worked vram oam = ⟨p, 0, none⟩ := dotWork_vblank vram oam h h'

/-- Only the start of VBlank requests anything but `STAT`. -/
theorem worked_statOnly (vram oam : Memory) {p : Ppu} (h : ¬(p.ly.toNat = 144 ∧ p.dot = 0)) :
    StatOnly (p.worked vram oam).raise := by
  by_cases hv : p.ly.toNat ≤ 143
  · rw [worked_visible vram oam hv]
    exact (visibleDot_keeps vram oam ⟨p, 0, none⟩).raise (.inl rfl)
  · rw [worked_vblank vram oam (by omega) h]
    exact .inl rfl

/-- The `IF` bits after a tick: those before it, those of the dot's work, and the coincidence edge. -/
theorem ppuTick_bit {s : State} (hon : s.ppu.lcdOn = true) (i : Nat) : bitAt (ppuTick s).irq.ifl i =
    (bitAt s.irq.ifl i || (bitAt (s.ppu.worked s.vram s.oam).raise i ||
      bitAt (if s.ppu.coincidenceEdge (ppuTick s).ppu then 0x02#8 else 0x00#8) i)) := by
  rw [ppuTick_ifl, tick_on_raise s.vram s.oam hon, bitAt_or, bitAt_or, ppuTick_ppu]

/-- A bit that the dot's work requests is set after the tick. -/
theorem ppuTick_requests {s : State} (hon : s.ppu.lcdOn = true) {i : Nat}
    (h : bitAt (s.ppu.worked s.vram s.oam).raise i = true) : bitAt (ppuTick s).irq.ifl i = true := by
  rw [ppuTick_bit hon, h, Bool.true_or, Bool.or_true]

/-- A bit but 1 that the dot's work does not request is as before the tick. -/
theorem ppuTick_keeps_bit {s : State} (hon : s.ppu.lcdOn = true) {i : Nat} (hi : i ≠ 1)
    (h : bitAt (s.ppu.worked s.vram s.oam).raise i = false) : bitAt (ppuTick s).irq.ifl i = bitAt s.irq.ifl i := by
  rw [ppuTick_bit hon, h, (statOnly_ite _).bit hi, Bool.or_false, Bool.or_false]

/-- Settles O28: the mode and the requests of each dot are those of its stages, and the check that ends the tick compares
`LY` with `LYC`. -/
theorem ppuModesAndCoincidence : Obligations.PpuModesAndCoincidence := by
  refine ⟨fun s hon => ?_, fun s hon => ?_⟩
  · intro p t
    obtain ⟨hmode, hsprites, hscxL, hlx, hdone, -, -⟩ := tick_on_worked s.vram s.oam hon
    have ht : t.ppu = (p.tick s.vram s.oam).ppu := ppuTick_ppu s
    rw [ht, hmode, hsprites, hscxL, hlx, hdone]
    refine ⟨fun hv h0 => ?_, fun hv h0 h80 hm => ?_, fun hv h80 => ?_, fun hv h80 hm => ?_, fun hly h0 => ?_,
      fun hly h' => ?_, fun h' => ?_, fun i hi => ?_⟩
    · obtain ⟨hm, hs, hr⟩ := visibleDot_dot0 s.vram s.oam (o := ⟨p, 0, none⟩) h0
      rw [← worked_visible s.vram s.oam hv] at hm hs hr
      refine ⟨hm, hs, fun hen => ppuTick_requests hon ?_⟩
      rw [hr, if_pos hen, bitAt_or]
      exact Bool.or_true _
    · rw [worked_visible s.vram s.oam hv]
      exact visibleDot_scanning s.vram s.oam (o := ⟨p, 0, none⟩) h0 h80 hm
    · rw [worked_visible s.vram s.oam hv]
      exact visibleDot_dot80 s.vram s.oam (o := ⟨p, 0, none⟩) h80
    · rw [worked_visible s.vram s.oam hv, visibleDot_drawn s.vram s.oam (o := ⟨p, 0, none⟩) h80 hm]
    · have hw := worked_vblankEntry s.vram s.oam ⟨hly, h0⟩
      refine ⟨by rw [hw, enterVBlank_ppu], ppuTick_requests hon ?_, fun hen => ppuTick_requests hon ?_⟩
      · rw [hw, enterVBlank_raise, bitAt_or, bitAt_or]
        exact Bool.or_eq_true_iff.2 (.inl (Bool.or_true _))
      · rw [hw, enterVBlank_raise, if_pos hen, bitAt_or]
        exact Bool.or_true _
    · rw [worked_vblank s.vram s.oam hly h']
    · exact ppuTick_keeps_bit hon (by decide) ((worked_statOnly s.vram s.oam h').bit (by decide))
    · refine ppuTick_keeps_bit hon (by omega) ?_
      by_cases h' : p.ly.toNat = 144 ∧ p.dot = 0
      · rw [worked_vblankEntry s.vram s.oam h', enterVBlank_raise, bitAt_or, (statOnly_ite _).bit (by omega), Bool.or_false]
        exact bitAt_one_other (by omega)
      · exact (worked_statOnly s.vram s.oam h').bit (by omega)
  · intro t
    obtain ⟨-, -, -, -, -, hlyc, hc⟩ := tick_on_worked s.vram s.oam hon
    have ht : t.ppu = (s.ppu.tick s.vram s.oam).ppu := ppuTick_ppu s
    rw [← ht] at hlyc hc
    refine ⟨hc, hlyc, fun heq hno hen => ?_, fun hly h' => ?_⟩
    · have hedge : s.ppu.coincidenceEdge (ppuTick s).ppu = true := by
        unfold Ppu.coincidenceEdge
        rw [hno, hen, beq_iff_eq.2 heq]
        rfl
      rw [ppuTick_bit hon, hedge, if_pos rfl]
      simp [bitAt]
    · rw [ppuTick_bit hon, worked_vblank s.vram s.oam hly h']
      have hedge : s.ppu.coincidenceEdge (ppuTick s).ppu =
          (decide (t.ppu.ly = t.ppu.lyc) && !s.ppu.coincidence && s.ppu.statEn.getLsbD 3) := rfl
      have hnone : bitAt (⟨s.ppu, 0, none⟩ : PpuOut).raise 1 = false := BitVec.getLsbD_zero
      rw [hedge, hnone, bitAt_ite_stat, Bool.false_or]

/-! ## The sprite merge -/

theorem curSprite_eq {p : Ppu} {sp : Sprite} (h : p.sprites[p.spCur]? = some sp) : p.curSprite = sp := by
  unfold Ppu.curSprite
  rw [h, Option.getD_some]

/-- The column of pixel `i` is that of slot `k`. -/
def Ppu.inColumn (p : Ppu) (sp : Sprite) (k i : Nat) : Prop := sp.x.toNat + i = p.lx + 8 + k

theorem getElem?_mergePixel_column {p : Ppu} {sp : Sprite} {k i : Nat} (fifo : List PixelFifoEntry)
    (h : p.inColumn sp k i) : (p.mergePixel sp fifo i)[k]? = fifo[k]?.map (p.mergeEntry sp i) := by
  unfold Ppu.inColumn at h
  have hk : sp.x.toNat + i - 8 - p.lx = k := by omega
  rw [mergePixel_eq_modify, if_neg (by omega), hk, List.getElem?_modify]
  simp

theorem getElem?_mergePixel_other {p : Ppu} {sp : Sprite} {k i : Nat} (fifo : List PixelFifoEntry)
    (h : ¬p.inColumn sp k i) : (p.mergePixel sp fifo i)[k]? = fifo[k]? := by
  unfold Ppu.inColumn at h
  rw [mergePixel_eq_modify]
  split
  · rfl
  · rw [List.getElem?_modify]
    simp [show sp.x.toNat + i - 8 - p.lx ≠ k by omega]

/-- Of the pixels merged one after another, the one in a slot's column alone changes the slot. -/
theorem getElem?_foldl_mergePixel_other {p : Ppu} {sp : Sprite} {k : Nat} (l : List Nat) (fifo : List PixelFifoEntry)
    (h : ∀ i ∈ l, ¬p.inColumn sp k i) : (l.foldl (p.mergePixel sp) fifo)[k]? = fifo[k]? := by
  induction l generalizing fifo with
  | nil => rfl
  | cons j l ih =>
    rw [List.foldl_cons, ih _ fun i hi => h i (List.mem_cons_of_mem j hi),
      getElem?_mergePixel_other _ (h j List.mem_cons_self)]

theorem getElem?_foldl_mergePixel_column {p : Ppu} {sp : Sprite} {k i : Nat} {l : List Nat} (hl : l.Nodup)
    (fifo : List PixelFifoEntry) (hi : i ∈ l) (h : p.inColumn sp k i) :
    (l.foldl (p.mergePixel sp) fifo)[k]? = fifo[k]?.map (p.mergeEntry sp i) := by
  induction l generalizing fifo with
  | nil => cases hi
  | cons j l ih =>
    obtain ⟨hj, hl⟩ := List.nodup_cons.1 hl
    rw [List.foldl_cons]
    rcases List.mem_cons.1 hi with rfl | hi
    · rw [getElem?_foldl_mergePixel_other l _ fun m hm hcol => ?_, getElem?_mergePixel_column fifo h]
      unfold Ppu.inColumn at h hcol
      obtain rfl : m = i := by omega
      exact hj hm
    · rw [ih hl _ hi, getElem?_mergePixel_other fifo fun hcol => ?_]
      unfold Ppu.inColumn at h hcol
      obtain rfl : j = i := by omega
      exact hj hi

/-- The merge of a slot in the sprite's columns. -/
theorem getElem?_spriteMerge_column {p : Ppu} {sp : Sprite} {k i : Nat} (hi : i < 8) (h : p.inColumn sp k i) :
    (p.spriteMerge sp).fifo[k]? = p.fifo[k]?.map (p.mergeEntry sp i) :=
  getElem?_foldl_mergePixel_column (by decide) p.fifo (List.mem_range.2 hi : i ∈ List.range 8) h

theorem getElem?_spriteMerge_other {p : Ppu} {sp : Sprite} {k : Nat} (h : ∀ i, i < 8 → ¬p.inColumn sp k i) :
    (p.spriteMerge sp).fifo[k]? = p.fifo[k]? :=
  getElem?_foldl_mergePixel_other (List.range 8) p.fifo fun i hi => h i (List.mem_range.1 hi)

theorem mergeEntry_visible {p : Ppu} {sp : Sprite} {i : Nat} {e : PixelFifoEntry} (hunclaimed : e.fromSprite = false)
    (hopaque : p.pixelIndex sp i ≠ 0) (hshown : ¬(bitAt sp.attr 7 = true ∧ e.ci ≠ 0)) : p.mergeEntry sp i e =
      { ci := p.pixelIndex sp i, pal := if bitAt sp.attr 4 then .obj1 else .obj0, fromSprite := true } :=
  if_pos ⟨hunclaimed, hopaque, hshown⟩

/-- An entry that the merge changes was unclaimed, under an opaque pixel, and not hidden by the background. -/
theorem mergeEntry_changed {p : Ppu} {sp : Sprite} {i : Nat} {e : PixelFifoEntry} (h : p.mergeEntry sp i e ≠ e) :
    e.fromSprite = false ∧ p.pixelIndex sp i ≠ 0 ∧ ¬(bitAt sp.attr 7 = true ∧ e.ci ≠ 0) := by
  by_contra hcond
  exact h (if_neg hcond)

/-- The merge step of the sprite fetcher: the merge, and the end of the fetch. -/
theorem spriteFetchDot_merge (vram : Memory) {p : Ppu} (h : p.spStep = .merge) : p.spriteFetchDot vram =
    { p.spriteMerge p.curSprite with spDone := p.spCur :: p.spDone, spActive := false } := by
  unfold Ppu.spriteFetchDot
  dsimp only
  split
  case h_4 => rfl
  all_goals
    rename_i hstep
    rw [h] at hstep
    cases hstep

/-- Settles O29: slot by slot, the one pixel of its column decides. -/
theorem spriteMergeKeepsPriority : Obligations.SpriteMergeKeepsPriority := by
  intro vram p sp hsp
  rw [curSprite_eq hsp]
  intro q ci pal
  have hci : ∀ i, ci i = p.pixelIndex sp i := fun i => rfl
  refine ⟨length_spriteMerge p sp, fun i e hi hx he hunclaimed hopaque hshown => ?_, fun k e he => ?_, fun hstep => ?_⟩
  · rw [getElem?_spriteMerge_column hi (by unfold Ppu.inColumn; omega), he, Option.map_some,
      mergeEntry_visible hunclaimed hopaque hshown]
    rfl
  · by_cases hcol : ∃ i, i < 8 ∧ p.inColumn sp k i
    · obtain ⟨i, hi, hcol⟩ := hcol
      have hk := getElem?_spriteMerge_column hi hcol
      rw [he, Option.map_some] at hk
      unfold Ppu.inColumn at hcol
      refine ⟨p.mergeEntry sp i e, hk, fun hclaimed => ?_, fun hprio hbg => ?_, fun hout => by omega,
        fun _ _ hclear => ?_, fun hne => ?_⟩
      · by_contra hne
        rw [(mergeEntry_changed hne).1] at hclaimed
        cases hclaimed
      · by_contra hne
        exact (mergeEntry_changed hne).2.2 ⟨hprio, hbg⟩
      · by_contra hne
        rw [show p.lx + k + 8 - sp.x.toNat = i by omega] at hclear
        exact (mergeEntry_changed hne).2.1 hclear
      · obtain ⟨hunclaimed, hopaque, hshown⟩ := mergeEntry_changed hne
        rw [mergeEntry_visible hunclaimed hopaque hshown]
        exact ⟨rfl, hopaque, rfl⟩
    · have hk := getElem?_spriteMerge_other (p := p) (sp := sp) (k := k) fun i hi h => hcol ⟨i, hi, h⟩
      rw [he] at hk
      exact ⟨e, hk, fun _ => rfl, fun _ _ => rfl, fun _ => rfl, fun _ _ _ => rfl, fun hne => absurd rfl hne⟩
  · rw [spriteFetchDot_merge vram hstep, curSprite_eq hsp]
    rfl

/-! ## The compositor -/

/-- Two bits of a palette register, bit by bit. -/
theorem extractLsb'_two (v : Byte) (n : Nat) :
    v.extractLsb' n 2 = BitVec.ofBool (bitAt v (n + 1)) ++ BitVec.ofBool (bitAt v n) := by
  apply BitVec.eq_of_getLsbD_eq
  intro i hi
  rw [BitVec.getLsbD_extractLsb', BitVec.getLsbD_append]
  interval_cases i <;> simp [bitAt]

/-- Settles O30: by the watermark, then by the discard count. -/
theorem compositorEmitsThePaletteShade : Obligations.CompositorEmitsThePaletteShade := by
  intro p e rest q
  refine ⟨fun h => ?_, fun hfifo hlen hdis => ?_, fun hfifo hlen hdis => ?_⟩
  · rw [show q = ⟨p, 0#8, none⟩ from compositorDot_empty h]
    exact ⟨rfl, rfl, rfl⟩
  · have hq : q = ⟨{ p with fifo := rest, discard := p.discard - 1 }, 0#8, none⟩ := by
      change PpuOut.compositorDot _ = _
      unfold PpuOut.compositorDot
      rw [if_pos (by rw [hfifo, List.length_cons]; omega)]
      dsimp only
      rw [hfifo]
      exact if_pos hdis
    rw [hq]
    exact ⟨rfl, rfl, rfl⟩
  · intro pal
    have hshade : p.shadeOf e =
        BitVec.ofBool (bitAt pal (2 * e.ci.toNat + 1)) ++ BitVec.ofBool (bitAt pal (2 * e.ci.toNat)) :=
      extractLsb'_two pal (2 * e.ci.toNat)
    rw [← hshade]
    have hq : q = if p.lx + 1 = 160 then
          PpuOut.enterHBlank ⟨{ p with fifo := rest, lx := p.lx + 1 }, 0#8, some (if p.skipFrame then 0 else p.shadeOf e)⟩
        else ⟨{ p with fifo := rest, lx := p.lx + 1 }, 0#8, some (if p.skipFrame then 0 else p.shadeOf e)⟩ := by
      change PpuOut.compositorDot _ = _
      unfold PpuOut.compositorDot
      rw [if_pos (by rw [hfifo, List.length_cons]; omega)]
      dsimp only
      rw [hfifo]
      exact if_neg (by omega)
    by_cases hlast : p.lx = 159
    · rw [hq, if_pos (by omega)]
      unfold PpuOut.enterHBlank
      rw [raiseIf_ppu, raiseIf_pixel, raiseIf_raise]
      refine ⟨rfl, rfl, rfl, fun h => absurd hlast h, fun _ => ⟨rfl, BitVec.zero_or, ?_⟩⟩
      dsimp only
      split <;> rfl
    · rw [hq, if_neg (by omega)]
      exact ⟨rfl, rfl, rfl, fun _ => ⟨rfl, rfl⟩, fun h => absurd h hlast⟩

/-! ## The enable bit -/

/-- Settles O26: a write of `LCDC` by the old and the new bit 7. -/
theorem lcdEnableBitStartsAndStopsThePpu : Obligations.LcdEnableBitStartsAndStopsThePpu := by
  intro s v p
  have hwrite : busWrite 0xFF40#16 v s = .ok () { s with ppu := p.writeLcdc v } := rfl
  rw [hwrite]
  refine ⟨?_, ?_, ?_, ppuTick_off⟩
  · intro hold hnew q
    simp [Ppu.writeLcdc, Ppu.lcdOn, Ppu.lcdcBit, hold, hnew, q, emptyBackup, List.replicate]
  · intro hold hnew q
    simp [Ppu.writeLcdc, Ppu.lcdOn, Ppu.lcdcBit, hold, hnew, q]
  · intro hsame
    simp [Ppu.writeLcdc, Ppu.lcdOn, Ppu.lcdcBit, hsame]

end Sys2Proof.Machine
end

section
/-! PROOFS. The step (60_exceptions.md R310, R320, R332, R341): an instruction's effect, its time and the end of the step, for
the machine running, halted, interrupted, and taking a fault. -/

namespace Sys2Proof.Machine

/-! ## The parts of a step -/

theorem afterEffect_running {s : State} (n : Nat) (h : s.fault = none) : afterEffect n s = tickN n s := by
  unfold afterEffect
  rw [h]
  rfl

/-- An effect that raised ends the step. -/
theorem endStep_afterEffect_faulted {s : State} (n : Nat) (h : s.fault ≠ none) : endStep (afterEffect n s) = s := by
  unfold afterEffect
  rw [if_pos (Option.isSome_iff_ne_none.2 h)]
  rfl

/-- The delayed enable, without its test. -/
theorem applyImePending_eq (s : State) :
    applyImePending s = { s with irq.ime := s.irq.ime || s.irq.imePending, irq.imePending := false } := by
  unfold applyImePending
  obtain ⟨regs, ⟨ime, pending, halted, ifl, ie⟩⟩ := s
  cases pending
  · simp
  · simp

theorem applyImePending_none {s : State} (h : s.irq.imePending = false) : applyImePending s = s := by
  unfold applyImePending
  rw [h]
  rfl

theorem endStep_ok (a : Unit) (s : State) :
    endStep (.ok a s) = ((dispatchCheck s).bind fun _ t => .ok () (applyImePending t)).state := rfl

/-- With nothing to take the step ends in the delayed enable. -/
theorem endStep_idle {s : State} (a : Unit) (h : s.irq.ime = false ∨ s.irq.ifl &&& s.irq.ie &&& 0x1F#8 = 0x00#8) :
    endStep (.ok a s) = applyImePending s := by
  rw [endStep_ok, dispatchCheck_idle h, Res.bind_ok, Res.state_ok]

/-- Settles O8: every effect completes, and the step goes on unless it raised. -/
theorem stepRunsTheDecodedInstruction : Obligations.StepRunsTheDecodedInstruction := by
  intro s i op rest hrun hdec hbytes s'
  obtain ⟨t, ht, -⟩ := exec_completes i s'
  have hstep := step_of_bytes hrun hdec hbytes ht
  refine ⟨t, ht, fun hf => ?_, fun hf => ?_⟩
  · rw [hstep, afterEffect_running _ hf]
  · rw [hstep, endStep_afterEffect_faulted _ hf]

/-- Settles O9: `n` quiet T-cycles, nothing to take, and the delayed enable. -/
theorem quietStepIsEffectThenTime : Obligations.QuietStepIsEffectThenTime := by
  intro s t i op rest hrun hdec hbytes s' n hexec hf hquiet hidle
  rw [step_of_bytes hrun hdec hbytes hexec, afterEffect_running _ hf, tickN_quiet hquiet, endStep_idle (s := afterQuiet n t) () hidle,
    applyImePending_eq]
  rfl

/-! ## What a byte reads after time has passed -/

/-- Quiet T-cycles change no byte but the divider register. -/
theorem peek_afterQuiet (n : Nat) {s : State} {a : Word} (h : a ≠ 0xFF04#16) : peek a (afterQuiet n s) = peek a s := by
  rw [peek_of_locate (s := afterQuiet n s) rfl, peek_of_locate (s := s) rfl]
  change readTarget (locate s.bootEnabled a) _ = _
  cases ht : locate s.bootEnabled a with
  | io r =>
    cases r
    case div => exact absurd (locate_io ht) h
    all_goals rfl
  | boot | cart | vram | wram | oam | reserved | port | hram | ie | uncovered => rfl

/-- A change of the interrupt state but `IE` changes no byte but `IF`. -/
theorem peek_setIrq {s : State} {q : Irq} (hie : q.ie = s.irq.ie) {a : Word} (h : a ≠ 0xFF0F#16) :
    peek a { s with irq := q } = peek a s := by
  rw [peek_of_locate (s := { s with irq := q }) rfl, peek_of_locate (s := s) rfl]
  change readTarget (locate s.bootEnabled a) _ = _
  cases ht : locate s.bootEnabled a with
  | io r =>
    cases r
    case ifl => exact absurd (locate_io ht) h
    all_goals rfl
  | ie => exact congrArg some hie
  | boot | cart | vram | wram | oam | reserved | port | hram | uncovered => rfl

theorem peek_applyImePending (a : Word) (s : State) : peek a (applyImePending s) = peek a s := by
  rw [applyImePending_eq]
  exact peek_congr a rfl

/-! ## Halted -/

theorem beginStep_idle {s : State} (hh : s.irq.halted = true) (hnone : s.irq.ifl &&& s.irq.ie = 0x00#8) :
    beginStep s = { s with pc0 := s.regs.pc } := by
  obtain ⟨regs, ⟨ime, pending, halted, ifl, ie⟩⟩ := s
  unfold beginStep
  dsimp only at hh hnone ⊢
  rw [hh, hnone]
  rfl

theorem step_idle {s : State} (hf : s.fault = none) (hh : s.irq.halted = true)
    (hnone : s.irq.ifl &&& s.irq.ie = 0x00#8) : step s = .next (endStep (tickN 4 { s with pc0 := s.regs.pc })) := by
  unfold step
  split
  · rename_i r hr
    rw [hf] at hr
    cases hr
  · dsimp only
    rw [beginStep_idle hh hnone]
    exact if_pos hh

/-- A pending enabled interrupt ends the halt before anything else (R341). -/
theorem beginStep_resume {s : State} (hsome : s.irq.ifl &&& s.irq.ie ≠ 0x00#8) :
    beginStep s = beginStep { s with irq.halted := false } := by
  unfold beginStep
  dsimp only
  rw [beq_eq_false_iff_ne.2 hsome, Bool.and_false, Bool.and_false]

/-- Settles O10. -/
theorem haltedStepIdlesOrResumes : Obligations.HaltedStepIdlesOrResumes := by
  intro s hf hh
  refine ⟨step_idle hf hh, fun hnone hquiet => ?_, fun hsome => ?_⟩
  · have hidle : s.irq.ifl &&& s.irq.ie &&& 0x1F#8 = 0x00#8 := by rw [hnone, BitVec.zero_and]
    have hq : DevicesQuiet 4 { s with pc0 := s.regs.pc } := hquiet
    refine ⟨_, step_idle hf hh hnone, ?_⟩
    rw [tickN_quiet hq, endStep_idle (s := afterQuiet 4 { s with pc0 := s.regs.pc }) () (.inr hidle)]
    refine ⟨?_, ?_, ?_, ?_, ?_, fun a ha => ?_⟩
    case refine_6 =>
      rw [peek_applyImePending, peek_afterQuiet 4 ha]
      exact peek_congr a rfl
    all_goals rw [applyImePending_eq]
    case refine_3 => exact hh
    all_goals rfl
  · unfold step
    dsimp only
    rw [beginStep_resume hsome]

/-! ## Taking an interrupt -/

/-- The interrupt state after the dispatch of interrupt `k` (R332). -/
def Irq.taken (k : Nat) (q : Irq) : Irq :=
  { ime := false, imePending := false, halted := false, ifl := q.ifl &&& ~~~(1#8 <<< k), ie := q.ie }

theorem lowestPending_eq {p : Byte} {k : Nat} (hk : k < 5) (hbit : bitAt p k = true)
    (hlow : ∀ j, j < k → bitAt p j = false) : lowestPending p = some k := by
  unfold lowestPending
  have h0 := hlow 0
  have h1 := hlow 1
  have h2 := hlow 2
  have h3 := hlow 3
  interval_cases k <;> simp_all [List.find?]

theorem lowestPending_eq_none {p : Byte} (h : ∀ j, j < 5 → bitAt p j = false) : lowestPending p = none := by
  unfold lowestPending
  rw [List.find?_eq_none]
  intro j hj
  rw [h j (by simp only [List.mem_cons, List.not_mem_nil, or_false] at hj; omega)]
  exact Bool.false_ne_true

/-- With `IME` set the dispatch check takes the lowest pending enabled interrupt. -/
theorem dispatchCheck_takes {s : State} {k : Nat} (hk : k < 5) (hime : s.irq.ime = true)
    (hbit : bitAt (s.irq.ifl &&& s.irq.ie) k = true) (hlow : ∀ j, j < k → bitAt (s.irq.ifl &&& s.irq.ie) j = false) :
    dispatchCheck s = (push16 s.regs.pc { s with irq := s.irq.taken k }).bind fun _ t =>
      tickN 20 (setPc (interruptVector k) t) := by
  unfold dispatchCheck
  rw [if_pos hime, lowestPending_eq hk hbit hlow]
  rfl

/-- Settles O11: the push completes or raises, and all else follows it. -/
theorem dispatchTakesTheLowestPendingInterrupt : Obligations.DispatchTakesTheLowestPendingInterrupt := by
  intro s k hk
  refine ⟨fun hime hbit hlow => ?_, fun hime => dispatchCheck_idle (.inl hime), fun hnone => ?_⟩
  · intro s'
    have htakes := dispatchCheck_takes hk hime hbit hlow
    refine ⟨fun hhi hlo => ?_, fun t ht => ?_⟩
    · obtain ⟨t, ht⟩ := push16_covered s.regs.pc s' hhi hlo
      refine ⟨t, ht, ?_⟩
      rw [htakes, show push16 s.regs.pc { s with irq := s.irq.taken k } = .ok () t from push16_iff.2 ht, Res.bind_ok]
      rfl
    · rw [htakes, show push16 s.regs.pc { s with irq := s.irq.taken k } = .raised t from push16_raised ht,
        Res.bind_raised]
  · unfold dispatchCheck
    rw [lowestPending_eq_none hnone]
    exact ite_self _

/-! ## A push into WRAM -/

theorem locate_wram_address {a : Word} (h : 0xC000 ≤ a.toNat ∧ a.toNat < 0xE000) :
    locate false a = .wram (a.toNat - 0xC000) := by
  obtain ⟨hlo, hhi⟩ := h
  unfold locate
  dsimp only
  rw [if_neg (by omega), if_neg (by omega), if_neg (by omega), if_pos hhi]

/-- Both bytes of a push into WRAM are stored, at two places, and nothing but WRAM and `SP` changes. -/
theorem push16_wram (v : Word) {s : State} (h : 0xC000 ≤ s.regs.sp.toNat - 2 ∧ s.regs.sp.toNat ≤ 0xE000) :
    ∃ t, Pushes v s t ∧ t = { s with wram := t.wram, regs.sp := s.regs.sp - 2 } ∧
      locate false (s.regs.sp - 1) ≠ locate false (s.regs.sp - 2) ∧
      Storage (locate false (s.regs.sp - 1)) = true ∧ Storage (locate false (s.regs.sp - 2)) = true := by
  have h1 : (s.regs.sp - 1).toNat = s.regs.sp.toNat - 1 := by bv_omega
  have h2 : (s.regs.sp - 2).toNat = s.regs.sp.toNat - 2 := by bv_omega
  have hl1 := locate_wram_address (a := s.regs.sp - 1) (by omega)
  have hl2 := locate_wram_address (a := s.regs.sp - 2) (by omega)
  obtain ⟨t, w, hw, ht⟩ := push16_covered v s (by rw [Covered, hl1]; simp) (by rw [Covered, hl2]; simp)
  refine ⟨t, ⟨w, hw, ht⟩, ?_, ?_, by rw [hl1]; rfl, by rw [hl2]; rfl⟩
  · rw [ht.effect, hl2, hw.effect, hl1]
    rfl
  · rw [hl1, hl2]
    simp only [ne_eq, Target.wram.injEq]
    omega

theorem selfContained_of_storage {t : Target} (h : Storage t = true) : SelfContained t = true := by
  cases t with
  | vram | wram | oam | hram | ie => rfl
  | boot | cart | reserved | io | port | uncovered => cases h

/-- What a push to two different places that keep bytes leaves: its two bytes, and every byte of another place. -/
theorem Pushes.peeks {v : Word} {s t : State} (h : Pushes v s t)
    (h1 : Storage (locate false (s.regs.sp - 1)) = true) (h2 : Storage (locate false (s.regs.sp - 2)) = true) :
    (locate false (s.regs.sp - 1) ≠ locate false (s.regs.sp - 2) → peek (s.regs.sp - 1) t = some (hi8 v)) ∧
    peek (s.regs.sp - 2) t = some (lo8 v) ∧
    ∀ a, locate false a ≠ locate false (s.regs.sp - 1) → locate false a ≠ locate false (s.regs.sp - 2) →
      peek a t = peek a s := by
  obtain ⟨w, hw, ht⟩ := h
  have hsp : ∀ (a : Word) (u : State) (p : Word), peek a { u with regs.sp := p } = peek a u := fun a _ _ =>
    peek_congr a rfl
  refine ⟨fun hne => ?_, ht.keeps h2, fun a ha1 ha2 => ?_⟩
  · rw [ht.frame.selfContained (selfContained_of_storage h2) _ hne, hsp]
    exact hw.keeps h1
  · rw [ht.frame.selfContained (selfContained_of_storage h2) _ ha2, hsp,
      hw.frame.selfContained (selfContained_of_storage h1) _ ha1, hsp]

/-! ## The step that enters a handler -/

theorem DevicesQuiet.split {n m : Nat} {s : State} (h : DevicesQuiet (n + m) s) :
    DevicesQuiet n s ∧ DevicesQuiet m (afterQuiet n s) := by
  obtain ⟨hdma, hlcd, htimer, rest, hbits⟩ := h
  rw [List.replicate_add, List.append_assoc] at hbits
  refine ⟨⟨hdma, hlcd, htimer, _, hbits⟩, hdma, hlcd, htimer, rest, ?_⟩
  change s.env.bits.drop n = _
  rw [hbits, List.drop_left' List.length_replicate]

/-- Settles O12: four quiet T-cycles of the `NOP`, the push into WRAM, twenty quiet T-cycles at the vector. -/
theorem stepDispatchesAfterTheInstruction : Obligations.StepDispatchesAfterTheInstruction := by
  intro s k hk hrun hbytes hime hpend hbit hlow hsp hquiet
  obtain ⟨hq4, hq20⟩ := DevicesQuiet.split (n := 4) (m := 20) hquiet
  let e : State := afterQuiet 4 (fetched 0x00#8 1 s)
  have hq4' : DevicesQuiet 4 (fetched 0x00#8 1 s) := hq4
  have hstep : step s = .next (endStep (afterEffect 4 (fetched 0x00#8 1 s))) :=
    step_of_bytes (i := .nop) hrun (decode_encode .nop [] rfl) hbytes rfl
  rw [afterEffect_running 4 (by exact hrun.1), tickN_quiet hq4', endStep_ok, dispatchCheck_takes (s := e) hk hime hbit hlow] at hstep
  obtain ⟨u, hpush, hu, hne, hst1, hst2⟩ := push16_wram e.regs.pc (s := { e with irq := e.irq.taken k }) hsp
  obtain ⟨hhi, hlo, hother⟩ := hpush.peeks hst1 hst2
  have hqu : DevicesQuiet 20 (setPc (interruptVector k) u) := by
    rw [hu]
    exact hq20
  rw [push16_iff.2 hpush, Res.bind_ok, tickN_quiet hqu, Res.bind_ok, Res.state_ok,
    applyImePending_none (by rw [hu]; rfl)] at hstep
  have hpeek : ∀ a, a ≠ 0xFF04#16 → peek a (afterQuiet 20 (setPc (interruptVector k) u)) = peek a u := fun a ha => by
    rw [peek_afterQuiet 20 ha]
    exact memoryKept_setPc _ u a
  have hnot04 : ∀ a, Storage (locate false a) = true → a ≠ 0xFF04#16 := by
    rintro a ha rfl
    cases ha
  refine ⟨_, hstep, ?_, ?_, rfl, ?_, (hpeek _ (hnot04 _ hst1)).trans (hhi hne), (hpeek _ (hnot04 _ hst2)).trans hlo, ?_,
    ?_, fun a ha1 ha2 haif hadiv => ?_⟩
  · rw [hu]
    exact hrun.1
  · rw [hu]
    rfl
  · rw [hu]
    rfl
  · rw [hu]
    rfl
  · intro x hx
    rw [hu]
    cases x
    case sp | pc => exact absurd (by decide) hx
    all_goals rfl
  · rw [hpeek a hadiv, hother a ha1 ha2, peek_setIrq (s := e) (q := e.irq.taken k) rfl haif, peek_afterQuiet 4 hadiv]
    exact peek_congr a rfl

/-- Settles O13: a quiet step whose effect is the pending enable, with `IME` clear at the dispatch check. -/
theorem eiTakesEffectAfterItsOwnCheck : Obligations.EiTakesEffectAfterItsOwnCheck := by
  intro s hrun hbytes hime hquiet
  have hstep := quietStepIsEffectThenTime s { fetched 0xFB#8 1 s with irq.imePending := true } .ei 0xFB#8 [] hrun
    (decode_encode .ei [] rfl) hbytes rfl hrun.1 hquiet (.inl hime)
  refine ⟨_, hstep, rfl, rfl, ?_⟩
  dsimp only
  rw [Bool.or_true]
  rfl

/-! ## Unknown opcodes and `STOP` -/

/-- The eleven unknown opcodes: one byte each, and the fault that names it. -/
theorem unknownOpcode_spec {op : Byte} {i : Instr} (h : (op, i) ∈ unknownOpcodes) :
    WellFormed i = true ∧ encode i = [op] ∧ ∀ s, exec i s = .next (raiseFault (.illegalOpcode op) s) := by
  simp only [unknownOpcodes, List.mem_cons, Prod.mk.injEq, List.not_mem_nil, or_false] at h
  rcases h with ⟨rfl, rfl⟩ | ⟨rfl, rfl⟩ | ⟨rfl, rfl⟩ | ⟨rfl, rfl⟩ | ⟨rfl, rfl⟩ | ⟨rfl, rfl⟩ | ⟨rfl, rfl⟩ | ⟨rfl, rfl⟩ |
    ⟨rfl, rfl⟩ | ⟨rfl, rfl⟩ | ⟨rfl, rfl⟩
  all_goals exact ⟨rfl, rfl, fun _ => rfl⟩

/-- A step whose instruction takes a fault ends in it, with the fetch made and no time passed. -/
theorem step_faults {s : State} {op : Byte} {rest : List Byte} {i : Instr} {k : FaultKind} (hrun : Running s)
    (hdec : decode (op :: rest) = .ok (i, [])) (hbytes : BytesAt s s.regs.pc (op :: rest))
    (hexec : ∀ s, exec i s = .next (raiseFault k s)) :
    step s = .next (raiseFault k (fetched op (1 + rest.length) s)) := by
  rw [step_of_bytes hrun hdec hbytes (hexec _), endStep_afterEffect_faulted]
  exact Option.some_ne_none _

/-- Settles O15. -/
theorem unknownOpcodesAndStopTakeTheirFault : Obligations.UnknownOpcodesAndStopTakeTheirFault := by
  refine ⟨fun op i s h => ?_, fun n s => ⟨rfl, rfl, fun hrun hbytes => ?_⟩⟩
  · obtain ⟨hwf, henc, hexec⟩ := unknownOpcode_spec h
    have hdec := decode_encode i [] hwf
    rw [henc] at hdec
    exact ⟨henc, hdec, hexec s, fun hrun hbytes => step_faults hrun hdec hbytes hexec⟩
  · exact step_faults hrun (decode_encode (.stop n) [] rfl) hbytes fun _ => rfl

end Sys2Proof.Machine
end

section
/-! PROOFS. The stack instructions, decimal addition, and the instructions that set the bits of the processor
(41_load16.md R184, R185; 42_alu8.md R224; 45_control.md R293 to R297; 46_system.md). -/

namespace Sys2Proof.Machine

/-! ## `PUSH`, and `POP` after it -/

theorem pushOf_form (p : Reg16Stk) (s : State) :
    encode (pushOf p) = [0b11#2 ++ p.code ++ 0b0101#4] ∧ cost (pushOf p) s = 16 := by
  cases p <;> exact ⟨rfl, rfl⟩

theorem exec_pushOf (p : Reg16Stk) (s : State) : exec (pushOf p) s = pushPair p s := by cases p <;> rfl

theorem pushPair_pushes {p : Reg16Stk} {s t : State} (h : Pushes (s.reg16Stk p) s t) : pushPair p s = .next t := by
  unfold pushPair
  rw [push16_iff.2 h, Res.done_ok]

/-- Settles O45: the value the statement puts together is that of the pair. -/
theorem pushStoresThePairBelowTheStack : Obligations.PushStoresThePairBelowTheStack := by
  intro p s v
  have hv : v = s.reg16Stk p := by cases p <;> rfl
  obtain ⟨henc, hcost⟩ := pushOf_form p s
  rw [hv, exec_pushOf]
  refine ⟨henc, hcost, fun hhi hlo => ?_⟩
  obtain ⟨t, ht⟩ := push16_covered (s.reg16Stk p) s hhi hlo
  exact ⟨t, pushPair_pushes ht, ht, by rw [ht.regs], ht.regsKept⟩

/-- Two addresses of one place that keeps bytes are equal, or a byte of WRAM and its echo (20_memory.md R66). -/
theorem locate_storage_eq {a b : Word} (hs : Storage (locate false a) = true) (h : locate false a = locate false b) :
    a = b ∨ 0xC000 ≤ a.toNat ∧ a.toNat < 0xFE00 ∧ 0xC000 ≤ b.toNat ∧ b.toNat < 0xFE00 ∧
      (a.toNat = b.toNat + 0x2000 ∨ b.toNat = a.toNat + 0x2000) := by
  have ha := located a
  have hb := located b
  rw [← h] at hb
  rw [← BitVec.toNat_inj]
  revert hs ha hb
  generalize locate false a = t
  intro hs ha hb
  cases ha with
  | rom | cartRam | reserved | io | port | uncovered => cases hs
  | vram | wram | echo | oam | hram | ie => cases hb <;> omega

/-- The two bytes of a stack that keeps them are two places. -/
theorem locate_stack_ne {sp : Word} (hs : Storage (locate false (sp - 1)) = true) :
    locate false (sp - 1) ≠ locate false (sp - 2) := by
  intro h
  obtain h | ⟨ha, -, hb, -, h⟩ := locate_storage_eq hs h <;> bv_omega

/-- What was pushed is popped from a stack that keeps its bytes. -/
theorem Pushes.pops {v : Word} {s t : State} (h : Pushes v s t) (h1 : Storage (locate false (s.regs.sp - 1)) = true)
    (h2 : Storage (locate false (s.regs.sp - 2)) = true) : Pops v t { t with regs.sp := s.regs.sp } := by
  obtain ⟨hhi, hlo, -⟩ := h.peeks h1 h2
  have hsp : t.regs.sp = s.regs.sp - 2 := by rw [h.regs]
  have hsp1 : t.regs.sp + 1 = s.regs.sp - 1 := by rw [hsp]; bv_omega
  have hsp2 : t.regs.sp + 2 = s.regs.sp := by rw [hsp]; bv_omega
  refine ⟨lo8 v, hi8 v, t, { t with regs.sp := t.regs.sp + 1 }, .inl ⟨by rw [hsp]; exact hlo, rfl⟩, .inl ⟨?_, rfl⟩,
    (pair_hi8_lo8 v).symm, by rw [hsp2]⟩
  rw [peek_congr (s := t) _ rfl, hsp1]
  exact hhi (locate_stack_ne h1)

theorem maskF_maskF (v : Byte) : maskF (maskF v) = maskF v := by
  unfold maskF
  rw [BitVec.and_assoc, BitVec.and_self]

theorem pair_maskF (v : Word) : pair (hi8 v) (maskF (lo8 v)) = v &&& 0xFFF0#16 := by
  apply BitVec.eq_of_getLsbD_eq
  intro i hi
  unfold pair hi8 lo8 maskF
  rw [BitVec.getLsbD_append, BitVec.getLsbD_and, BitVec.getLsbD_and]
  interval_cases i <;> simp

/-- A pair reads what was written to it, `F` without its low nibble. -/
theorem reg16Stk_setReg16Stk (p : Reg16Stk) (v : Word) (s : State) :
    (setReg16Stk p v s).reg16Stk p = if p = .af then v &&& 0xFFF0#16 else v := by
  cases p
  case af =>
    rw [if_pos rfl, ← pair_maskF]
    exact congrArg (pair (hi8 v)) (maskF_maskF (lo8 v))
  all_goals
    rw [if_neg (by decide)]
    exact pair_hi8_lo8 v

/-- Settles O47: the pop finds the two bytes pushed, at two places of which nothing else was written. -/
theorem pushThenPopReproducesTheValue : Obligations.PushThenPopReproducesTheValue := by
  intro p q s h1 h2
  have hcov : ∀ {a : Word}, Storage (locate false a) = true → Covered a := fun h hu => by
    rw [hu] at h
    cases h
  obtain ⟨t, ht⟩ := push16_covered (s.reg16Stk p) s (hcov h1) (hcov h2)
  obtain ⟨-, -, hother⟩ := ht.peeks h1 h2
  have hpop := ht.pops h1 h2
  have hregs : ({ t with regs.sp := s.regs.sp } : State).regs = s.regs := by
    dsimp only
    rw [ht.regs]
  rw [exec_pushOf]
  refine ⟨t, setReg16Stk q (s.reg16Stk p) { t with regs.sp := s.regs.sp }, pushPair_pushes ht,
    (exec_popOf q t).trans (popPair_pops q hpop), setReg16Stk_regs_sp _ _ _, reg16Stk_setReg16Stk _ _ _,
    (regsKept_setReg16Stk q _ _).of_regs_eq hregs, fun a ha1 ha2 => ?_⟩
  rw [(onlyRegsChange_setReg16Stk q _ _).2 a, ← hother a ha1 ha2]
  exact peek_congr a rfl

/-! ## Decimal addition -/

/-- `Add8` of two packed decimal bytes, then `DAA`: the digit sums carried at ten. -/
theorem daa8_add8_decimal {a b : Byte} {a1 a0 b1 b0 : Nat} (cin : Bool) (ha1 : a1 < 10) (ha0 : a0 < 10) (hb1 : b1 < 10)
    (hb0 : b0 < 10) (ha : a.toNat = 16 * a1 + a0) (hb : b.toNat = 16 * b1 + b0) :
    let o := add8 a b cin
    let d := daa8 o.res false o.h o.c
    ∃ d1 d0, d1 < 10 ∧ d0 < 10 ∧ d.res.toNat = 16 * d1 + d0 ∧
      100 * d.c.toNat + 10 * d1 + d0 = (10 * a1 + a0) + (10 * b1 + b0) + cin.toNat := by
  intro o d
  have hcin : cin.toNat ≤ 1 := Bool.toNat_le cin
  have hsum : o.res.toNat = (a.toNat + b.toNat + cin.toNat) % 256 := BitVec.toNat_ofNat _ _
  have hh : o.h = true ↔ 0x0F < a.toNat % 16 + b.toNat % 16 + cin.toNat := decide_eq_true_iff
  have hc : o.c = true ↔ 0xFF < a.toNat + b.toNat + cin.toNat := decide_eq_true_iff
  have hlow : (o.h = true ∨ 0x09 < o.res.toNat % 16) ↔ 10 ≤ a0 + b0 + cin.toNat := by
    rw [hh, hsum]
    omega
  have hhigh : (o.c = true ∨ 0x99 < o.res.toNat) ↔ 100 ≤ 10 * (a1 + b1) + (a0 + b0 + cin.toNat) := by
    rw [hc, hsum]
    omega
  have hres : d.res.toNat = (o.res.toNat + (if 10 ≤ a0 + b0 + cin.toNat then 0x06 else 0) +
      (if 100 ≤ 10 * (a1 + b1) + (a0 + b0 + cin.toNat) then 0x60 else 0)) % 256 := by
    rw [← if_congr hlow rfl rfl, ← if_congr hhigh rfl rfl]
    exact daa8_add_res o.res o.h o.c
  have hcarry : d.c = decide (100 ≤ 10 * (a1 + b1) + (a0 + b0 + cin.toNat)) := by
    rw [← decide_eq_decide.2 hhigh, Bool.decide_or, Bool.decide_eq_true]
    rfl
  rw [hres, hcarry, hsum]
  by_cases h0 : 10 ≤ a0 + b0 + cin.toNat <;> by_cases h1 : 100 ≤ 10 * (a1 + b1) + (a0 + b0 + cin.toNat)
  · refine ⟨a1 + b1 + 1 - 10, a0 + b0 + cin.toNat - 10, by omega, by omega, ?_, ?_⟩ <;> simp [h0, h1] <;> omega
  · refine ⟨a1 + b1 + 1, a0 + b0 + cin.toNat - 10, by omega, by omega, ?_, ?_⟩ <;> simp [h0, h1] <;> omega
  · refine ⟨a1 + b1 - 10, a0 + b0 + cin.toNat, by omega, by omega, ?_, ?_⟩ <;> simp [h0, h1] <;> omega
  · refine ⟨a1 + b1, a0 + b0 + cin.toNat, by omega, by omega, ?_, ?_⟩ <;> simp [h0, h1] <;> omega

/-- Settles O53: `DAA` reads the flags that `ADC` left, whose `N` is clear. -/
theorem daaAfterAdcAddsInDecimal : Obligations.DaaAfterAdcAddsInDecimal := by
  intro s t r a1 a0 b1 b0 ha1 ha0 hb1 hb0 ha hb hadc
  have hdeliv : AluSrc.Delivers (.reg r) s (s.reg8 r) s := ⟨rfl, rfl⟩
  obtain ⟨t', ht', hin⟩ := alu_effect (k := .adc) (by decide) hdeliv
  obtain rfl : t = t' := by
    rw [hadc] at ht'
    cases ht'
    rfl
  obtain ⟨-, hn, hh, hc, -⟩ := hin.flags
  have hres : t.regs.a = (add8 s.regs.a (s.reg8 r) s.flagC).res := hin.res
  obtain ⟨u, hu, hout⟩ := decimalAdjust_effect t
  obtain ⟨d1, d0, hd1, hd0, hdigits, hsum⟩ := daa8_add8_decimal s.flagC ha1 ha0 hb1 hb0 ha hb
  have hin' : daa8 t.regs.a t.flagN t.flagH t.flagC =
      daa8 (add8 s.regs.a (s.reg8 r) s.flagC).res false (add8 s.regs.a (s.reg8 r) s.flagC).h
        (add8 s.regs.a (s.reg8 r) s.flagC).c := by
    rw [hres, hn, hh, hc]
    rfl
  rw [hin'] at hout
  refine ⟨u, d1, d0, hu, hd1, hd0, ?_, ?_⟩
  · rw [← hdigits, ← hout.res]
    rfl
  · rw [hout.flagC]
    exact hsum

/-! ## `RET`, `RET cc`, `RETI` -/

theorem retIfOf_form (cc : Cond) (s : State) :
    encode (retIfOf cc) = [0b110#3 ++ cc.code ++ 0b000#3] ∧ cost (retIfOf cc) s = (if s.cond cc then 20 else 8) := by
  cases cc <;> exact ⟨rfl, rfl⟩

theorem exec_retIfOf (cc : Cond) (s : State) : exec (retIfOf cc) s = returnIf cc s := by cases cc <;> rfl

theorem returnOp_pops {v : Word} {s u : State} (h : Pops v s u) : returnOp s = .next (setPc v u) := by
  unfold returnOp returnRes
  rw [pop16_iff.2 h, Res.bind_ok, Res.done_ok]

theorem returnInt_pops {v : Word} {s u : State} (h : Pops v s u) :
    returnInt s = .next { setPc v u with irq.ime := true } := by
  unfold returnInt returnFromInterrupt
  rw [pop16_iff.2 h, Res.bind_ok, Res.done_ok]

/-- Taken, `RET cc` is `RET`. -/
theorem returnIf_taken {cc : Cond} {s : State} (h : s.cond cc = true) : returnIf cc s = returnOp s := by
  unfold returnIf returnOp
  rw [if_pos h]

theorem returnIf_not_taken {cc : Cond} {s : State} (h : s.cond cc = false) : returnIf cc s = .next s := by
  unfold returnIf
  rw [if_neg (Bool.eq_false_iff.1 h), Res.done_ok]

/-- Settles O59: each form is one pop and one write of `PC`, `RETI` with `IME` beside it. -/
theorem returnsPopThePc : Obligations.ReturnsPopThePc := by
  intro cc v s u
  rw [exec_retIfOf]
  refine ⟨⟨rfl, rfl⟩, ⟨rfl, rfl⟩, retIfOf_form cc s, fun h => ?_, returnIf_not_taken⟩
  have hret : returnOp s = .next (setPc v u) := returnOp_pops h
  exact ⟨h.regsKept, by rw [h.regs], hret, returnInt_pops h, fun htaken => (returnIf_taken htaken).trans hret⟩

/-! ## The bits of the processor -/

/-- Settles O60: `IME`, its pending enable and `halted` are no byte of the address space. -/
theorem systemInstructionsSetTheirBits : Obligations.SystemInstructionsSetTheirBits := by
  intro s
  refine ⟨⟨rfl, rfl, rfl⟩, ⟨rfl, rfl, rfl⟩, ⟨rfl, rfl, rfl⟩, ⟨rfl, rfl, rfl⟩, fun t h a => ?_⟩
  rcases h with h | h | h
  all_goals
    cases h
    exact peek_congr a rfl

end Sys2Proof.Machine
end

section
/-! PROOFS. The uncovered addresses (20_memory.md R83; 60_exceptions.md R320, R322): which they are, and the fault of every
access to one. -/

namespace Sys2Proof.Machine

theorem not_covered_iff (a : Word) : ¬Covered a ↔
    (a.toNat = 0xFF03 ∨ (0xFF08 ≤ a.toNat ∧ a.toNat ≤ 0xFF0E) ∨ (0xFF4C ≤ a.toNat ∧ a.toNat ≤ 0xFF4F) ∨
      (0xFF51 ≤ a.toNat ∧ a.toNat ≤ 0xFF7F)) := by
  have hl := located a
  unfold Covered
  revert hl
  generalize locate false a = t
  intro hl
  cases hl with
  | uncovered h => simpa using h
  | io r h =>
    subst h
    cases r <;> decide
  | rom | vram | cartRam | wram | echo | oam | reserved | port | hram | ie =>
    simp only [ne_eq, reduceCtorEq, not_false_eq_true, not_true_eq_false, false_iff]
    omega

/-- A fetch of the first byte at an uncovered address ends the step in the fault, with no history entry (log 6). -/
theorem step_fetch_faults {s : State} (hrun : Running s) (h : ¬Covered s.regs.pc) :
    step s = .next (busFaulted s.regs.pc { s with pc0 := s.regs.pc, irq.halted := false }) := by
  have hfetch : fetchInstr (beginStep s) =
      .raised (busFaulted s.regs.pc { s with pc0 := s.regs.pc, irq.halted := false }) := by
    rw [beginStep_running hrun]
    unfold fetchInstr fetch8
    rw [busRead_uncovered h, Res.bind_raised, Res.bind_raised]
  have hh : (beginStep s).irq.halted = false := by rw [beginStep_running hrun]
  unfold step
  rw [hrun.1]
  dsimp only
  rw [hh, hfetch]
  rfl

/-! ## The shared meanings at an uncovered address -/

/-- Whatever follows it, a read that raises ends the meaning. -/
theorem done_busRead_uncovered {a : Word} (s : State) (h : ¬Covered a) (k : Byte → State → Res Unit) :
    ((busRead a s).bind k).done = .next (busFaulted a s) := by
  rw [busRead_uncovered h, Res.bind_raised, Res.done_raised]

theorem done_busWrite_uncovered {a : Word} (v : Byte) (s : State) (h : ¬Covered a) (k : Unit → State → Res Unit) :
    ((busWrite a v s).bind k).done = .next (busFaulted a s) := by
  rw [busWrite_uncovered v s h, Res.bind_raised, Res.done_raised]

theorem loadFrom_uncovered (dst : Reg8) {a : Word} (s : State) (h : ¬Covered a) :
    loadFrom dst a s = .next (busFaulted a s) := done_busRead_uncovered s h _

theorem storeAt_uncovered {a : Word} (v : Byte) (s : State) (h : ¬Covered a) :
    storeAt a v s = .next (busFaulted a s) := by
  unfold storeAt
  rw [busWrite_uncovered v s h, Res.done_raised]

/-- A meaning of the `(HL)` forms: no register written, `HL` not moved. -/
theorem exec_hl_uncovered {s : State} (h : ¬Covered s.hl) (r : Reg8) (n : Byte) (up : Bool) (k : AluOp) (sh : ShiftOp)
    (b : BitNo) {i : Instr} (hi : i ∈ [ldRHl r, ldHlR r, .ld_mhl_n n, ldAMove up, stAMove up, aluInstr k .mem, .inc_mhl,
      .dec_mhl, shiftHlOf sh, bitTestHlOf b, bitResHlOf b, bitSetHlOf b]) : exec i s = .next (busFaulted s.hl s) := by
  simp only [List.mem_cons, List.not_mem_nil, or_false] at hi
  rcases hi with rfl | rfl | rfl | rfl | rfl | rfl | rfl | rfl | rfl | rfl | rfl | rfl
  · rw [exec_ldRHl, loadFrom_uncovered r s h]
  · rw [exec_ldHlR, storeAt_uncovered _ s h]
  · exact storeAt_uncovered n s h
  · rw [exec_ldAMove]
    exact done_busRead_uncovered s h _
  · rw [exec_stAMove]
    exact done_busWrite_uncovered _ s h _
  · rw [exec_aluInstr_mem]
    exact done_busRead_uncovered s h _
  · exact done_busRead_uncovered s h _
  · exact done_busRead_uncovered s h _
  · rw [exec_shiftHlOf]
    exact done_busRead_uncovered s h _
  · rw [exec_bitTestHlOf]
    exact done_busRead_uncovered s h _
  · rw [exec_bitResHlOf]
    exact done_busRead_uncovered s h _
  · rw [exec_bitSetHlOf]
    exact done_busRead_uncovered s h _

theorem storeSp_uncovered_low {nn : Word} (s : State) (h : ¬Covered nn) : storeSp nn s = .next (busFaulted nn s) :=
  done_busWrite_uncovered _ s h _

/-- The first write is not undone. -/
theorem storeSp_uncovered_high {nn : Word} (s : State) (hlo : Covered nn) (hhi : ¬Covered (nn + 1)) :
    ∃ w, Stores nn (lo8 s.regs.sp) s w ∧ storeSp nn s = .next (busFaulted (nn + 1) w) := by
  have hw := writeTarget_stores (lo8 s.regs.sp) s hlo
  refine ⟨_, hw, ?_⟩
  unfold storeSp busWrite16
  rw [busWrite_iff.2 hw, Res.bind_ok, busWrite_uncovered _ _ hhi, Res.done_raised]

/-! ## The stack at an uncovered address -/

theorem pushPair_faults {p : Reg16Stk} {s t : State} (h : PushFaults (s.reg16Stk p) s t) : pushPair p s = .next t := by
  unfold pushPair
  rw [push16_raised h, Res.done_raised]

theorem callTo_faults {s t : State} (nn : Word) (h : PushFaults s.regs.pc s t) : callTo nn s = .next t := by
  unfold callTo callRes
  rw [push16_raised h, Res.bind_raised, Res.done_raised]

theorem restart_faults {s t : State} (n : BitVec 3) (h : PushFaults s.regs.pc s t) : restart n s = .next t :=
  callTo_faults (rstTarget n) h

theorem popPair_faults (p : Reg16Stk) {s t : State} (h : PopFaults s t) : popPair p s = .next t := by
  unfold popPair
  rw [pop16_raised h, Res.bind_raised, Res.done_raised]

theorem returnOp_faults {s t : State} (h : PopFaults s t) : returnOp s = .next t := by
  unfold returnOp returnRes
  rw [pop16_raised h, Res.bind_raised, Res.done_raised]

theorem returnInt_faults {s t : State} (h : PopFaults s t) : returnInt s = .next t := by
  unfold returnInt returnFromInterrupt
  rw [pop16_raised h, Res.bind_raised, Res.done_raised]

/-- Settles O16: every access raises there, and a raise ends its meaning. -/
theorem uncoveredAddressRaisesBusFault : Obligations.UncoveredAddressRaisesBusFault := by
  refine ⟨fun a v s => ⟨not_covered_iff a, fun h => ⟨busRead_uncovered h, busWrite_uncovered v s h⟩, step_fetch_faults⟩,
    fun r n up k sh b x i s => ⟨fun h hi => exec_hl_uncovered h r n up k sh b hi, fun h hi => ?_⟩,
    fun p cc b nn s t => ⟨storeSp_uncovered_low s, storeSp_uncovered_high s, fun h => ?_, fun h => ?_, fun h => ?_,
      fun h => ?_⟩⟩
  · simp only [List.mem_cons, List.not_mem_nil, or_false] at hi
    rcases hi with rfl | rfl
    · rw [exec_ldA, loadFrom_uncovered .a s h]
    · rw [exec_stA, storeAt_uncovered _ s h]
  · rw [exec_pushOf, pushPair_faults h]
  · rw [exec_popOf, popPair_faults p h]
  · rw [exec_rstOf, exec_callIfOf]
    exact ⟨callTo_faults nn h, restart_faults _ h, fun htaken => (callIf_taken nn htaken).trans (callTo_faults nn h)⟩
  · rw [exec_retIfOf]
    exact ⟨returnOp_faults h, returnInt_faults h, fun htaken => (returnIf_taken htaken).trans (returnOp_faults h)⟩

end Sys2Proof.Machine
end

section
/-! PROOFS. The bus regions (20_memory.md R60 to R72): the I/O registers, the memories with the echo of WRAM, and the boot
overlay. -/

namespace Sys2Proof.Machine

/-! ## An access at a known place -/

/-- Above the first page the overlay changes nothing. -/
theorem locate_above (o : Bool) {a : Word} (h : 0x100 ≤ a.toNat) : locate o a = locate false a := by
  rcases locate_overlay o a with hl | ⟨hl, -⟩
  · exact hl
  · exact absurd (locate_boot_range hl) (by omega)

theorem peek_located {a : Word} {t : Target} (s : State) (h : locate false a = t) (hp : 0x100 ≤ a.toNat) :
    peek a s = readTarget t s := peek_of_locate (by rw [locate_above _ hp, h])

theorem busRead_located {a : Word} {t : Target} {s : State} {v : Byte} (h : locate false a = t) (hp : 0x100 ≤ a.toNat)
    (hv : readTarget t s = some v) : busRead a s = .ok v s := busRead_of_peek ((peek_located s h hp).trans hv)

theorem busWrite_located {a : Word} {t : Target} (v : Byte) (s : State) (h : locate false a = t) (hc : t ≠ .uncovered) :
    busWrite a v s = .ok () (writeTarget t v s) := by
  subst h
  exact busWrite_covered v s hc

/-! ## The I/O registers -/

theorem locate_ioAddress (r : IoReg) : locate false r.address = .io r := by cases r <;> rfl

theorem ioAddress_page (r : IoReg) : 0xFF00 ≤ r.address.toNat ∧ r.address.toNat < 0xFF80 := by cases r <;> decide

theorem busRead_io (r : IoReg) (s : State) : busRead r.address s = .ok (readIo r s) s :=
  busRead_located (locate_ioAddress r) (by have := (ioAddress_page r).1; omega) rfl

theorem busWrite_io (r : IoReg) (v : Byte) (s : State) : busWrite r.address v s = .ok () (writeIo r v s) :=
  busWrite_located v s (locate_ioAddress r) (by simp)

theorem tacByte_eq : ∀ tac : BitVec 3, (0b11111#5 ++ tac : Byte) = 0xF8#8 ||| tac.setWidth 8 := by decide

theorem tacStored_eq : ∀ v : Byte, (v.extractLsb' 0 3).setWidth 8 = v &&& 0x07#8 := by decide

theorem statStored_eq : ∀ v : Byte, (v.extractLsb' 3 4).setWidth 8 <<< 3 = v &&& 0x78#8 := by decide

theorem statBits_eq : ∀ (c : Bool) (e : BitVec 4) (m : BitVec 2), (1#1 ++ e ++ BitVec.ofBool c ++ m : Byte) =
    0x80#8 ||| (e.setWidth 8 <<< 3) ||| ((BitVec.ofBool c).setWidth 8 <<< 2) ||| m.setWidth 8 := by decide

/-- `STAT` as its bits are laid out (20_memory.md R70). -/
theorem busRead_stat (s : State) :
    busRead 0xFF41#16 s = .ok (0x80#8 ||| (s.ppu.statEn.setWidth 8 <<< 3) |||
      ((BitVec.ofBool s.ppu.coincidence).setWidth 8 <<< 2) ||| s.ppu.mode.bits.setWidth 8) s := by
  rw [← statBits_eq]
  exact busRead_io .stat s

/-! ## The external ports -/

theorem locate_portAddress {a : Word}
    (h : a = 0xFF00#16 ∨ a = 0xFF01#16 ∨ a = 0xFF02#16 ∨ (0xFF10 ≤ a.toNat ∧ a.toNat ≤ 0xFF3F)) :
    locate false a = .port a := by
  have h' : (0xFF00 ≤ a.toNat ∧ a.toNat ≤ 0xFF02) ∨ (0xFF10 ≤ a.toNat ∧ a.toNat ≤ 0xFF3F) := by
    rcases h with rfl | rfl | rfl | h
    · decide
    · decide
    · decide
    · exact .inr h
  have hl := located a
  revert hl
  generalize locate false a = t
  intro hl
  cases hl with
  | port => rfl
  | io r hr =>
    subst hr
    cases r <;> revert h' <;> decide
  | rom | vram | cartRam | wram | echo | oam | reserved | uncovered | hram | ie => omega

theorem busRead_portAddress {a : Word} (s : State)
    (h : a = 0xFF00#16 ∨ a = 0xFF01#16 ∨ a = 0xFF02#16 ∨ (0xFF10 ≤ a.toNat ∧ a.toNat ≤ 0xFF3F)) :
    busRead a s = .ok (portRead a s).1 (portRead a s).2 := by
  have hl := locate_portAddress h
  have hpage : 0x100 ≤ a.toNat := by
    rcases h with rfl | rfl | rfl | h
    · decide
    · decide
    · decide
    · omega
  exact busRead_iff.2 (.inr ⟨by rw [locate_above _ hpage, hl], rfl⟩)

theorem portRead_given {s : State} {v : Byte} {rest : List Byte} (a : Word) (h : s.env.bytes = v :: rest) :
    portRead a s = (v, { s with env.bytes := rest, env.count := s.env.count + 1, outbox := .portRead a :: s.outbox }) := by
  unfold portRead drawByte
  rw [logEvent_env, h]
  rfl

theorem portRead_free {s : State} (a : Word) (h : s.env.bytes = []) :
    portRead a s = (Config.freeByte s.env.count,
      { s with env.count := s.env.count + 1, outbox := .portRead a :: s.outbox }) := by
  unfold portRead drawByte
  rw [logEvent_env, h]
  rfl

/-- Settles O31: each register by its address, `TAC` and `STAT` bit by bit, and the ports by the draw. -/
theorem ioRegistersFollowTheirTable : Obligations.IoRegistersFollowTheirTable := by
  refine ⟨fun s => ⟨busRead_io .div s, busRead_io .tima s, busRead_io .tma s, ?tac, busRead_io .ifl s, busRead_io .lcdc s,
    ?stat, busRead_io .scy s, busRead_io .scx s, busRead_io .ly s, busRead_io .lyc s, busRead_io .dma s,
    busRead_io .bgp s, busRead_io .obp0 s, busRead_io .obp1 s, busRead_io .wy s, busRead_io .wx s,
    busRead_io .bootOff s, busRead_located (t := .ie) rfl (by decide) rfl, ?ports⟩,
    fun s v => ⟨busWrite_io .div v s, busWrite_io .tima v s, busWrite_io .tma v s,
    ⟨_, busWrite_io .tac v s, tacStored_eq v⟩, busWrite_io .ifl v s, ⟨_, busWrite_io .stat v s, statStored_eq v⟩,
    busWrite_io .scy v s, busWrite_io .scx v s, busWrite_io .ly v s, busWrite_io .lyc v s, busWrite_io .dma v s,
    busWrite_io .bgp v s, busWrite_io .obp0 v s, busWrite_io .obp1 v s, busWrite_io .wy v s, busWrite_io .wx v s,
    busWrite_io .bootOff v s, busWrite_located v s (t := .ie) rfl (by simp), fun a ha =>
      busWrite_located v s (locate_portAddress ha) (by simp)⟩⟩
  case tac =>
    rw [← tacByte_eq]
    exact busRead_io .tac s
  case stat =>
    rw [busRead_stat]
    cases s.ppu.mode <;> rfl
  case ports =>
    intro a ha
    rw [busRead_portAddress s ha]
    exact ⟨fun v rest hb => by rw [portRead_given a hb], fun hb => by rw [portRead_free a hb]⟩

/-! ## The memories -/

/-- The addresses of VRAM, of WRAM with its echo and OAM, and of HRAM. -/
theorem locate_memory {a : Word} (h : (0x8000 ≤ a.toNat ∧ a.toNat < 0xA000) ∨ (0xC000 ≤ a.toNat ∧ a.toNat < 0xFEA0) ∨
      (0xFF80 ≤ a.toNat ∧ a.toNat < 0xFFFF)) :
    ∃ i, locate false a = .vram i ∨ locate false a = .wram i ∨ locate false a = .oam i ∨ locate false a = .hram i := by
  have hl := located a
  revert hl
  generalize locate false a = t
  intro hl
  cases hl with
  | vram i => exact ⟨i, .inl rfl⟩
  | wram i => exact ⟨i, .inr (.inl rfl)⟩
  | echo i => exact ⟨i, .inr (.inl rfl)⟩
  | oam i => exact ⟨i, .inr (.inr (.inl rfl))⟩
  | hram i => exact ⟨i, .inr (.inr (.inr rfl))⟩
  | io r hr =>
    have := ioAddress_page r
    rw [hr] at h
    omega
  | rom | cartRam | reserved | port | uncovered | ie => omega

/-- WRAM and its echo: the offset is the address modulo the size of WRAM. -/
theorem locate_work {a : Word} (h : 0xC000 ≤ a.toNat ∧ a.toNat < 0xFE00) : locate false a = .wram (a.toNat % 0x2000) := by
  have hl := located a
  revert hl
  generalize locate false a = t
  intro hl
  cases hl with
  | wram i hi => congr 1; omega
  | echo i hi => congr 1; omega
  | io r hr =>
    have := ioAddress_page r
    rw [hr] at h
    omega
  | rom | vram | cartRam | oam | reserved | port | uncovered | hram | ie => omega

theorem locate_reserved {a : Word} (h : 0xFEA0 ≤ a.toNat ∧ a.toNat < 0xFF00) : locate false a = .reserved := by
  have hl := located a
  revert hl
  generalize locate false a = t
  intro hl
  cases hl with
  | reserved => rfl
  | io r hr =>
    have := ioAddress_page r
    rw [hr] at h
    omega
  | rom | vram | cartRam | wram | echo | oam | port | uncovered | hram | ie => omega

/-- A byte written in a memory: read back, and no other place reads differently. -/
theorem busWrite_memory {a : Word} (v : Byte) (s : State)
    (h : (0x8000 ≤ a.toNat ∧ a.toNat < 0xA000) ∨ (0xC000 ≤ a.toNat ∧ a.toNat < 0xFEA0) ∨
      (0xFF80 ≤ a.toNat ∧ a.toNat < 0xFFFF)) :
    Storage (locate false a) = true ∧ ∃ t, Stores a v s t ∧
      t = { s with vram := t.vram, wram := t.wram, oam := t.oam, hram := t.hram } := by
  obtain ⟨i, hl | hl | hl | hl⟩ := locate_memory h <;>
    exact ⟨by rw [hl]; rfl, _, writeTarget_stores v s (by rw [Covered, hl]; simp), by rw [hl]; rfl⟩

/-- Settles O32: two addresses are one byte exactly when they are equal, or WRAM and its echo. -/
theorem ramEchoAndReservedRegions : Obligations.RamEchoAndReservedRegions := by
  refine ⟨fun a v s h => ?_, fun a v s => ⟨fun hlo hhi => ?_, fun hlo hhi => ?_⟩⟩
  · obtain ⟨hs, t, ht, hframe⟩ := busWrite_memory v s h
    have hself := ht.frame.selfContained (selfContained_of_storage hs)
    refine ⟨t, busWrite_iff.2 ht, busRead_of_peek (ht.keeps hs), hframe, fun b hb hnot => hself b fun heq => ?_,
      fun b ha1 ha2 hb1 hb2 => ?_⟩
    · rcases locate_storage_eq hs heq.symm with hab | ⟨ha1, ha2, hb1, hb2, -⟩
      · exact hb hab.symm
      · exact hnot ⟨ha1, ha2, hb1, hb2⟩
    · have hla := locate_work ⟨ha1, ha2⟩
      have hlb := locate_work ⟨hb1, hb2⟩
      split_ifs with heq
      · have hmod : b.toNat % 0x2000 = a.toNat % 0x2000 := by omega
        rw [peek_located t hlb (by omega), hmod, ← peek_located t hla (by omega)]
        exact ht.keeps hs
      · refine hself b ?_
        rw [hla, hlb, ne_eq, Target.wram.injEq]
        omega
  · have hsub : (a - 0x2000#16).toNat = a.toNat - 0x2000 := by bv_omega
    have hla := locate_work (a := a) ⟨by omega, hhi⟩
    have hlb := locate_work (a := a - 0x2000#16) ⟨by omega, by omega⟩
    have hmod : (a - 0x2000#16).toNat % 0x2000 = a.toNat % 0x2000 := by omega
    have hoff : a.toNat % 0x2000 = a.toNat - 0xE000 := by omega
    rw [hmod] at hlb
    rw [peek_located s hla (by omega), peek_located s hlb (by omega), busWrite_located v s hla (by simp),
      busWrite_located v s hlb (by simp), hoff]
    exact ⟨rfl, rfl, rfl⟩
  · have hl := locate_reserved ⟨hlo, hhi⟩
    exact ⟨busRead_located hl (by omega) rfl, busWrite_located v s hl (by simp)⟩

/-! ## The cartridge and the overlay -/

theorem locate_rom {a : Word} (h : a.toNat < 0x8000) : locate false a = .cart a.toNat := by
  unfold locate
  dsimp only
  rw [if_pos h, Bool.false_and, if_neg Bool.false_ne_true]

theorem locate_firstPage {a : Word} (h : a.toNat < 0x100) : locate true a = .boot a.toNat := by
  unfold locate
  dsimp only
  rw [if_pos (by omega), Bool.true_and, if_pos (decide_eq_true h)]

theorem busWrite_rom {a : Word} (v : Byte) (s : State) (h : a.toNat < 0x8000) :
    busWrite a v s = .ok () (cartWrite a.toNat v s) := busWrite_located v s (locate_rom h) (by simp)

/-- Below `0x8000` a read delivers the byte of the cartridge, unless the overlay covers it. -/
theorem peek_rom {a : Word} {s : State} (h : a.toNat < 0x8000) (hb : s.bootEnabled = false ∨ 0x100 ≤ a.toNat) :
    peek a s = some (cartRead a.toNat s) := by
  have hl : locate s.bootEnabled a = .cart a.toNat := by
    rcases hb with hb | hb
    · rw [hb, locate_rom h]
    · rw [locate_above _ hb, locate_rom h]
  exact peek_of_locate hl

/-- Settles O33. -/
theorem bootOverlayCoversTheFirstPage : Obligations.BootOverlayCoversTheFirstPage := by
  intro a v w s h
  have hrom : a.toNat < 0x8000 := by omega
  exact ⟨fun hb => busRead_of_peek (peek_of_locate (by rw [hb, locate_firstPage h])),
    fun hb => busRead_of_peek (peek_rom hrom (.inl hb)), busWrite_rom v s hrom,
    _, busWrite_io .bootOff w s, rfl, busRead_of_peek (peek_rom hrom (.inl rfl))⟩

end Sys2Proof.Machine
end

section
/-! PROOFS. The cartridge (20_memory.md R90 to R110): the load, the bank registers and ROM windows of each controller, the
clock and its latch, and the RAM window. -/

namespace Sys2Proof.Machine

/-! ## The load -/

/-- A number that shares no bit with its predecessor is a power of two: its highest bit would be shared. -/
theorem eq_two_pow_log2_of_and_pred {k : Nat} (h0 : k ≠ 0) (h : k &&& (k - 1) = 0) : k = 2 ^ k.log2 := by
  by_contra hne
  have hle : 2 ^ k.log2 ≤ k := Nat.log2_self_le h0
  have hlt : k < 2 ^ (k.log2 + 1) := Nat.lt_log2_self
  have hpred : (k - 1).testBit k.log2 = true :=
    Nat.testBit_of_two_pow_le_and_two_pow_add_one_gt (by omega) (by omega)
  have hbit : (k &&& (k - 1)).testBit k.log2 = true := by
    rw [Nat.testBit_and, Nat.testBit_log2 h0, hpred, Bool.and_true]
  rw [h, Nat.zero_testBit] at hbit
  cases hbit

theorem nbanksOk_iff (k : Nat) : nbanksOk k = true ↔ ∃ m, 1 ≤ m ∧ k = 2 ^ m := by
  unfold nbanksOk
  rw [Bool.and_eq_true, decide_eq_true_eq, beq_iff_eq]
  constructor
  · rintro ⟨hge, hand⟩
    have hk := eq_two_pow_log2_of_and_pred (by omega) hand
    refine ⟨k.log2, Nat.one_le_iff_ne_zero.2 fun h0 => ?_, hk⟩
    rw [h0, pow_zero] at hk
    omega
  · rintro ⟨m, hm, rfl⟩
    exact ⟨Nat.le_self_pow (by omega) 2, by rw [Nat.and_two_pow_sub_one_eq_mod, Nat.mod_self]⟩

theorem romLengthOk_iff (len : Nat) : romLengthOk len = true ↔ ∃ m, 1 ≤ m ∧ len = 0x4000 * 2 ^ m := by
  unfold romLengthOk
  rw [Bool.and_eq_true, beq_iff_eq, nbanksOk_iff]
  constructor
  · rintro ⟨hmod, m, hm, hdiv⟩
    exact ⟨m, hm, by omega⟩
  · rintro ⟨m, hm, rfl⟩
    exact ⟨Nat.mul_mod_right _ _, m, hm, Nat.mul_div_cancel_left _ (Nat.succ_pos _)⟩

theorem loadCartridge_kind (k : CartKind) (len : Nat) (base : Cfg) : loadCartridge (.kind k) len base =
    if romLengthOk len then .ok { base with kind := k, nbanks := len / 0x4000 } else .error .malformedRom := rfl

/-! ## Writes of the controller's registers -/

theorem cartWrite_rom_ram {n : Nat} (v : Byte) (s : State) (h : n < 0x8000) : (cartWrite n v s).cart.ram = s.cart.ram := by
  unfold cartWrite
  rw [if_pos h]
  split_ifs
  · obtain ⟨now, armed, hc⟩ := latchWrite_cart v s
    rw [hc]
  · exact bankWrite_ram _ _ _ _

theorem cartWrite_bank {n : Nat} (v : Byte) (s : State) (h : n < 0x8000) (hlatch : ¬(s.cfg.kind = .mbc3 ∧ 0x6000 ≤ n)) :
    cartWrite n v s = { s with cart := bankWrite s.cfg.kind n v s.cart } := by
  unfold cartWrite
  rw [if_pos h, if_neg hlatch]

/-- A write below `0x8000` that is not the clock latch's writes the controller's registers alone. -/
theorem busWrite_bank {a : Word} {v : Byte} {s : State} {c : Cart} (h : a.toNat < 0x8000)
    (hlatch : s.cfg.kind ≠ .mbc3 ∨ a.toNat < 0x6000) (hc : bankWrite s.cfg.kind a.toNat v s.cart = c) :
    busWrite a v s = .ok () { s with cart := c } := by
  rw [busWrite_rom v s h, cartWrite_bank v s h (fun hm => by
    obtain ⟨hkind, hge⟩ := hm
    rcases hlatch with hne | hlt
    · exact hne hkind
    · omega), hc]

/-- Settles O34. -/
theorem romIsReadOnlyAndWellFormed : Obligations.RomIsReadOnlyAndWellFormed := by
  refine ⟨fun a v s h => ⟨_, busWrite_rom v s h, cartWrite_frame _ v s, cartWrite_rom_ram v s h, fun hk => ?_⟩,
    fun sel len base => ⟨?_, ?_, ?_⟩⟩
  · rw [cartWrite_bank v s h (by simp [hk]), hk]
    rfl
  · rintro ⟨n, rfl⟩
    rfl
  · rintro k rfl hlen
    rw [loadCartridge_kind, if_pos ((romLengthOk_iff len).2 hlen)]
  · rintro k rfl hlen
    rw [loadCartridge_kind, if_neg (mt (romLengthOk_iff len).1 hlen)]

/-- The RAM gate, one window for every controller (R93). -/
theorem bankWrite_gate {kind : CartKind} {n : Nat} (v : Byte) (c : Cart) (hk : kind ≠ .noMbc) (h : n < 0x2000) :
    bankWrite kind n v c = { c with ramEnable := (v &&& 0x0F#8) == 0x0A#8 } := by
  cases kind with
  | noMbc => exact absurd rfl hk
  | mbc1 | mbc3 | mbc5 => exact if_pos h

/-- The RAM bank of four bits (R100, R107). -/
theorem bankWrite_ramBank {kind : CartKind} {n : Nat} (v : Byte) (c : Cart) (hk : kind = .mbc3 ∨ kind = .mbc5)
    (hlo : 0x4000 ≤ n) (hhi : n < 0x6000) : bankWrite kind n v c = { c with ramBank := (v &&& 0x0F#8).setWidth 4 } := by
  have hv : ∀ v : Byte, (v &&& 0x0F#8).setWidth 4 = v.setWidth 4 := by decide
  rw [hv]
  unfold bankWrite
  rcases hk with rfl | rfl
  · dsimp only
    rw [if_neg (by omega), if_neg (by omega), if_pos hhi]
  · dsimp only
    rw [if_neg (by omega), if_neg (by omega), if_neg (by omega), if_pos hhi]

/-! ## The ROM windows -/

theorem peek_romIndex {a : Word} {s : State} {i : Nat} (h : a.toNat < 0x8000)
    (hb : s.bootEnabled = false ∨ 0x100 ≤ a.toNat) (hi : romIndex s.cfg s.cart a.toNat = i) :
    peek a s = some (Memory.read s.cfg.rom i) := by
  rw [peek_rom h hb, cartRead, if_pos h, hi]

/-- `MBC3` and `MBC5` select the upper window alone (R101, R108). -/
theorem romIndex_upperOnly {cfg : Cfg} (c : Cart) (n : Nat) (hk : cfg.kind = .mbc3 ∨ cfg.kind = .mbc5) :
    romIndex cfg c n = if n < 0x4000 then n else c.romBank.toNat % cfg.nbanks * 0x4000 + (n - 0x4000) := by
  unfold romIndex
  rcases hk with hk | hk <;> rw [hk] <;> rfl

theorem peek_lower {a : Word} {s : State} (hk : s.cfg.kind = .mbc3 ∨ s.cfg.kind = .mbc5) (h : a.toNat < 0x4000)
    (hb : s.bootEnabled = false ∨ 0x100 ≤ a.toNat) : peek a s = some (Memory.read s.cfg.rom a.toNat) :=
  peek_romIndex (by omega) hb (by rw [romIndex_upperOnly _ _ hk, if_pos h])

theorem peek_upper {a : Word} {s : State} (hk : s.cfg.kind = .mbc3 ∨ s.cfg.kind = .mbc5) (hlo : 0x4000 ≤ a.toNat)
    (hhi : a.toNat < 0x8000) : peek a s = some (Memory.read s.cfg.rom
      (s.cart.romBank.toNat % s.cfg.nbanks * 0x4000 + (a.toNat - 0x4000))) :=
  peek_romIndex hhi (.inr (by omega)) (by rw [romIndex_upperOnly _ _ hk, if_neg (by omega)])

theorem romIndex_mbc1_lower {cfg : Cfg} (c : Cart) {n : Nat} (hk : cfg.kind = .mbc1) (h : n < 0x4000) :
    romIndex cfg c n = (if c.bankMode then c.ramBank.toNat * 32 else 0) % cfg.nbanks * 0x4000 + n := by
  unfold romIndex
  rw [hk]
  dsimp only
  rw [if_pos h, Nat.shiftLeft_eq]
  rfl

/-- With five bits of ROM bank the two registers of `MBC1` do not overlap (R95). -/
theorem romIndex_mbc1_upper {cfg : Cfg} {c : Cart} {n : Nat} (hk : cfg.kind = .mbc1) (h : 0x4000 ≤ n)
    (hbank : c.romBank.toNat < 32) :
    romIndex cfg c n = (c.ramBank.toNat * 32 + c.romBank.toNat) % cfg.nbanks * 0x4000 + (n - 0x4000) := by
  unfold romIndex
  rw [hk]
  dsimp only
  rw [if_neg (by omega), ← Nat.shiftLeft_add_eq_or_of_lt hbank, Nat.shiftLeft_eq]
  rfl

/-! ## The controllers -/

/-- Settles O35. -/
theorem mbc1SelectsBanks : Obligations.Mbc1SelectsBanks := by
  intro a v s hk
  have hnot3 : s.cfg.kind ≠ .mbc3 ∨ a.toNat < 0x6000 := .inl (by simp [hk])
  refine ⟨fun h => busWrite_bank (by omega) hnot3 (bankWrite_gate v _ (by simp [hk]) h), fun hlo hhi => ?_, fun hlo hhi => ?_,
    fun hlo hhi => ?_, fun h hb => peek_romIndex (by omega) hb (romIndex_mbc1_lower _ hk h), fun hlo hhi hr => ?_⟩
  · refine busWrite_bank (by omega) hnot3 ?_
    unfold bankWrite
    rw [hk]
    dsimp only
    rw [if_neg (by omega), if_pos hhi]
    rfl
  · refine busWrite_bank (by omega) hnot3 ?_
    unfold bankWrite
    rw [hk]
    dsimp only
    rw [if_neg (by omega), if_neg (by omega), if_pos hhi]
  · refine busWrite_bank (by omega) hnot3 ?_
    unfold bankWrite
    rw [hk]
    dsimp only
    rw [if_neg (by omega), if_neg (by omega), if_neg (by omega)]
  · rw [bankInRange_iff, hk] at hr
    obtain ⟨-, hbank, -⟩ := hr
    exact peek_romIndex hhi (.inr (by omega)) (romIndex_mbc1_upper hk hlo hbank)

theorem toNat_lowBank (b : BitVec 9) (v : Byte) :
    (b.extractLsb' 8 1 ++ v : BitVec 9).toNat = b.toNat / 256 * 256 + v.toNat := by
  have hb := b.isLt
  rw [BitVec.toNat_append, ← Nat.shiftLeft_add_eq_or_of_lt v.isLt, Nat.shiftLeft_eq, BitVec.extractLsb'_toNat,
    Nat.shiftRight_eq_div_pow]
  omega

theorem toNat_ninthBank (b : BitVec 9) (v : Byte) :
    (v.extractLsb' 0 1 ++ b.extractLsb' 0 8 : BitVec 9).toNat = v.toNat % 2 * 256 + b.toNat % 256 := by
  rw [BitVec.toNat_append, ← Nat.shiftLeft_add_eq_or_of_lt (BitVec.isLt _), Nat.shiftLeft_eq, BitVec.extractLsb'_toNat,
    BitVec.extractLsb'_toNat]
  rfl

/-- Settles O37: the two writes of the ROM bank each set their bits of the nine. -/
theorem mbc5SelectsBanks : Obligations.Mbc5SelectsBanks := by
  intro a v s hk
  have hnot3 : s.cfg.kind ≠ .mbc3 ∨ a.toNat < 0x6000 := .inl (by simp [hk])
  refine ⟨fun h => busWrite_bank (by omega) hnot3 (bankWrite_gate v _ (by simp [hk]) h),
    fun hlo hhi => ⟨_, busWrite_bank (by omega) hnot3 ?low, toNat_lowBank _ v⟩,
    fun hlo hhi => ⟨_, busWrite_bank (by omega) hnot3 ?ninth, toNat_ninthBank _ v⟩,
    fun hlo hhi => busWrite_bank (by omega) hnot3 (bankWrite_ramBank v _ (.inr hk) hlo hhi),
    fun hlo hhi => busWrite_bank (c := s.cart) hhi hnot3 ?none,
    peek_lower (.inr hk), peek_upper (.inr hk)⟩
  case low =>
    unfold bankWrite
    rw [hk]
    dsimp only
    rw [if_neg (by omega), if_pos hhi]
  case ninth =>
    unfold bankWrite
    rw [hk]
    dsimp only
    rw [if_neg (by omega), if_neg (by omega), if_pos hhi]
  case none =>
    unfold bankWrite
    rw [hk]
    dsimp only
    rw [if_neg (by omega), if_neg (by omega), if_neg (by omega), if_neg (by omega)]

/-! ## The RAM window -/

theorem locate_cartRam {a : Word} (hlo : 0xA000 ≤ a.toNat) (hhi : a.toNat < 0xC000) : locate false a = .cart a.toNat := by
  unfold locate
  dsimp only
  rw [if_neg (by omega), if_neg (by omega), if_pos hhi]

theorem busRead_cartRam {a : Word} (s : State) (hlo : 0xA000 ≤ a.toNat) (hhi : a.toNat < 0xC000) :
    busRead a s = .ok (cartRead a.toNat s) s := busRead_located (locate_cartRam hlo hhi) (by omega) rfl

theorem busWrite_cartRam {a : Word} (v : Byte) (s : State) (hlo : 0xA000 ≤ a.toNat) (hhi : a.toNat < 0xC000) :
    busWrite a v s = .ok () (cartWrite a.toNat v s) := busWrite_located v s (locate_cartRam hlo hhi) (by simp)

theorem cartRead_closed {n : Nat} {s : State} (h : 0xA000 ≤ n) (hw : ramWindow s.cfg s.cart n = .closed) :
    cartRead n s = 0xFF#8 := by
  unfold cartRead
  rw [if_neg (by omega), hw]

theorem cartRead_ram {n i : Nat} {s : State} (h : 0xA000 ≤ n) (hw : ramWindow s.cfg s.cart n = .ram i) :
    cartRead n s = Memory.read s.cart.ram i := by
  unfold cartRead
  rw [if_neg (by omega), hw]

theorem cartRead_clock {n i : Nat} {s : State} (h : 0xA000 ≤ n) (hw : ramWindow s.cfg s.cart n = .clock i) :
    cartRead n s = s.cart.rtc.get i := by
  unfold cartRead
  rw [if_neg (by omega), hw]

theorem cartWrite_closed {n : Nat} (v : Byte) {s : State} (h : 0xA000 ≤ n) (hw : ramWindow s.cfg s.cart n = .closed) :
    cartWrite n v s = s := by
  unfold cartWrite
  rw [if_neg (by omega), hw]

theorem cartWrite_ram {n i : Nat} (v : Byte) {s : State} (h : 0xA000 ≤ n) (hw : ramWindow s.cfg s.cart n = .ram i) :
    cartWrite n v s = cartRamStore i v s := by
  unfold cartWrite
  rw [if_neg (by omega), hw]

theorem cartWrite_clock {n i : Nat} (v : Byte) {s : State} (h : 0xA000 ≤ n)
    (hw : ramWindow s.cfg s.cart n = .clock i) :
    cartWrite n v s = logEvent (.rtcWrite i v) { s with cart.rtc := s.cart.rtc.set v i } := by
  unfold cartWrite
  rw [if_neg (by omega), hw]

/-- A closed window reads `0xFF` and drops writes (R93). -/
theorem cartRam_closed {a : Word} {s : State} (v : Byte) (hlo : 0xA000 ≤ a.toNat) (hhi : a.toNat < 0xC000)
    (h : ramWindow s.cfg s.cart a.toNat = .closed) : busRead a s = .ok 0xFF#8 s ∧ busWrite a v s = .ok () s := by
  rw [busRead_cartRam s hlo hhi, busWrite_cartRam v s hlo hhi, cartRead_closed hlo h, cartWrite_closed v hlo h]
  exact ⟨rfl, rfl⟩

theorem ramWindow_closed {cfg : Cfg} {c : Cart} (n : Nat) (h : cfg.kind = .noMbc ∨ c.ramEnable = false ∨
      (cfg.kind ≠ .mbc3 ∧ cfg.cartRamSize = 0) ∨ (cfg.kind = .mbc3 ∧ c.ramBank.toNat ≤ 3 ∧ cfg.cartRamSize = 0)) :
    ramWindow cfg c n = .closed := by
  unfold ramWindow
  rcases h with h | h | ⟨h, hsize⟩ | ⟨h, hbank, hsize⟩
  · rw [h]
  · rw [h]
    cases cfg.kind <;> rfl
  · rw [hsize]
    cases hk : cfg.kind with
    | mbc3 => exact absurd hk h
    | noMbc => rfl
    | mbc1 | mbc5 => simp
  · rw [h, hsize]
    simp [hbank]

theorem ramWindow_open {cfg : Cfg} {c : Cart} (n : Nat) (hk : cfg.kind ≠ .noMbc) (he : c.ramEnable = true)
    (hsize : cfg.cartRamSize ≠ 0) (hbank : cfg.kind = .mbc3 → c.ramBank.toNat ≤ 3) :
    ramWindow cfg c n = .ram (ramIndex cfg c n) := by
  unfold ramWindow
  rw [he]
  cases h : cfg.kind with
  | noMbc => exact absurd h hk
  | mbc1 | mbc5 => simp [hsize]
  | mbc3 => simp [hsize, hbank h]

/-- On `MBC3` a bank that is neither RAM nor a clock register closes the window (R101). -/
theorem ramWindow_mbc3_hole {cfg : Cfg} {c : Cart} (n : Nat) (hk : cfg.kind = .mbc3)
    (h : (4 ≤ c.ramBank.toNat ∧ c.ramBank.toNat < 8) ∨ 0xC < c.ramBank.toNat) : ramWindow cfg c n = .closed := by
  unfold ramWindow
  rw [hk]
  dsimp only
  have hnot : ¬(decide (8 ≤ c.ramBank.toNat) && decide (c.ramBank.toNat ≤ 0xC)) = true := by
    rw [Bool.and_eq_true, decide_eq_true_eq, decide_eq_true_eq]
    omega
  have hnotRam : ¬c.ramBank.toNat ≤ 3 := by omega
  rw [if_neg hnotRam, if_neg hnot, ite_self]

theorem ramWindow_mbc3_clock {cfg : Cfg} {c : Cart} (n : Nat) (hk : cfg.kind = .mbc3) (he : c.ramEnable = true)
    (hlo : 8 ≤ c.ramBank.toNat) (hhi : c.ramBank.toNat ≤ 0xC) :
    ramWindow cfg c n = .clock (c.ramBank.toNat - 8) := by
  unfold ramWindow
  rw [hk, he]
  dsimp only
  rw [if_neg (by simp), if_neg (show ¬c.ramBank.toNat ≤ 3 by omega), if_pos (by simp [hlo, hhi])]

theorem rtcShadow_get_set_other (r : RtcShadow) (v : Byte) {i j : Nat} (hi : i < 5) (hj : j < 5) (h : j ≠ i) :
    (r.set v i).get j = r.get j := by
  interval_cases i <;> interval_cases j <;> simp [RtcShadow.get, RtcShadow.set] at h ⊢

/-- `RtcSource.now()` with five bytes given in advance. -/
theorem rtcNow_given {s : State} {b0 b1 b2 b3 b4 : Byte} {rest : List Byte}
    (h : s.env.bytes = b0 :: b1 :: b2 :: b3 :: b4 :: rest) :
    rtcNow s = (⟨b0, b1, b2, b3, b4⟩,
      { s with env.bytes := rest, env.count := s.env.count + 5, outbox := .rtcNow :: s.outbox }) := by
  simp [rtcNow, drawByte, logEvent, h]

theorem busWrite_latch {a : Word} (v : Byte) {s : State} (hk : s.cfg.kind = .mbc3) (hlo : 0x6000 ≤ a.toNat)
    (hhi : a.toNat < 0x8000) : busWrite a v s = .ok () (latchWrite v s) := by
  rw [busWrite_rom v s hhi, cartWrite, if_pos hhi, if_pos ⟨hk, hlo⟩]

/-- The latch arms on `0x00`, copies on `0x01` when armed, and is disarmed by any other byte (R106). -/
theorem latchWrite_armed {s : State} (h : s.cart.latchArmed = true) :
    latchWrite 0x01#8 s = { (rtcNow s).2 with cart.rtc := (rtcNow s).1, cart.latchArmed := false } := by
  unfold latchWrite
  rw [if_neg (by decide), if_pos (by simp [h])]

theorem latchWrite_disarms {v : Byte} {s : State} (h0 : v ≠ 0x00#8) (h : ¬(v = 0x01#8 ∧ s.cart.latchArmed = true)) :
    latchWrite v s = { s with cart.latchArmed := false } := by
  unfold latchWrite
  rw [if_neg h0, if_neg (by simpa using h)]

/-- Settles O36. -/
theorem mbc3BanksClockAndLatch : Obligations.Mbc3BanksClockAndLatch := by
  refine ⟨fun a v s hk => ⟨fun h => busWrite_bank (by omega) (.inr (by omega)) (bankWrite_gate v _ (by simp [hk]) h),
    fun hlo hhi => busWrite_bank (by omega) (.inr (by omega)) ?bank,
    fun hlo hhi => busWrite_bank (by omega) (.inr hhi) (bankWrite_ramBank v _ (.inl hk) hlo hhi),
    peek_lower (.inl hk), peek_upper (.inl hk), fun hlo hhi he h8 hC => ?clock, fun hlo hhi h => ?closed⟩,
    fun a v s hk hlo hhi => ?latch⟩
  case bank =>
    unfold bankWrite
    rw [hk]
    dsimp only
    rw [if_neg (by omega), if_pos hhi]
    rfl
  case clock =>
    have hw := ramWindow_mbc3_clock a.toNat hk he h8 hC
    refine ⟨?_, _, busWrite_cartRam v s hlo hhi, ?_⟩
    · rw [peek_located s (locate_cartRam hlo hhi) (by omega), readTarget, cartRead_clock hlo hw]
    · rw [cartWrite_clock v hlo hw]
      exact ⟨rfl, RtcShadow.get_set _ _ _, fun j hj hne => rtcShadow_get_set_other _ _ (by omega) hj hne⟩
  case closed =>
    refine cartRam_closed v hlo hhi ?_
    rcases h with h | h
    · exact ramWindow_closed _ (.inr (.inl h))
    · exact ramWindow_mbc3_hole _ hk h
  case latch =>
    rw [busWrite_latch v hk hlo hhi]
    refine ⟨?_, fun h0 h => by rw [latchWrite_disarms h0 h], ?_⟩
    · rintro rfl
      rfl
    · rintro b0 b1 b2 b3 b4 rest rfl harmed hbytes
      rw [latchWrite_armed harmed, rtcNow_given hbytes]

/-- Settles O38: the open window is one byte of the RAM, and the store is recorded when it changes that byte. -/
theorem cartridgeRamIsGated : Obligations.CartridgeRamIsGated := by
  intro a v s hlo hhi
  refine ⟨fun h => cartRam_closed v hlo hhi (ramWindow_closed _ h), fun hk he hsize hmod hbank => ?_⟩
  intro bank i
  have hi : ramIndex s.cfg s.cart a.toNat = i := by
    have : ramBankOf s.cfg s.cart = bank := by
      unfold ramBankOf
      cases h : s.cfg.kind with
      | noMbc => exact absurd h hk
      | mbc1 | mbc3 | mbc5 => simp [bank, h]
    rw [ramIndex, this]
  have hw : ramWindow s.cfg s.cart a.toNat = .ram i := by rw [ramWindow_open _ hk he hsize hbank, hi]
  have hl := locate_cartRam hlo hhi
  have hst := writeTarget_stores v s (a := a) (by rw [Covered, hl]; simp)
  rw [hl] at hst
  have ht : writeTarget (.cart a.toNat) v s = cartRamStore i v s := by
    rw [writeTarget, cartWrite_ram v hlo hw]
  rw [ht] at hst
  refine ⟨by rw [busRead_cartRam s hlo hhi, cartRead_ram hlo hw], cartRamStore i v s, ?_,
    hst.keepsCart _ hl hlo (by simp [hw]), ?_⟩
  · rw [busWrite_located v s hl (by simp), ht]
  · have hframe := hst.frame.cartRam _ i hl hlo hw hmod
    unfold cartRamStore at hframe ⊢
    split_ifs at hframe ⊢ with heq
    · exact ⟨heq, fun j _ => rfl, hframe, rfl⟩
    · exact ⟨Memory.read_write_same _ _ _, fun j hj => Memory.read_write_other _ _ hj, hframe, rfl⟩

end Sys2Proof.Machine
end

section
/-! PROOFS. The timer and the OAM-DMA unit (60_exceptions.md R350 to R361). -/

namespace Sys2Proof.Machine

/-! ## The timer -/

/-- The T-cycles between two increments of an enabled `TIMA`: the period of the divider bit that `TAC` selects. -/
def timerPeriod (tac : BitVec 3) : Nat := 2 ^ (selBit tac + 1)

theorem selBit_cases (tac : BitVec 3) : selBit tac = 9 ∨ selBit tac = 3 ∨ selBit tac = 5 ∨ selBit tac = 7 := by
  unfold selBit
  split
  · exact .inl rfl
  · exact .inr (.inl rfl)
  · exact .inr (.inr (.inl rfl))
  · exact .inr (.inr (.inr rfl))

/-- The selected bit of the divider falls exactly when the divider reaches a multiple of the period (R351). -/
theorem selBit_falls (tac : BitVec 3) (d : Word) :
    (d.getLsbD (selBit tac) && !(d + 1).getLsbD (selBit tac)) = decide ((d.toNat + 1) % timerPeriod tac = 0) := by
  have hnext : (d + 1).toNat = (d.toNat + 1) % 65536 := by bv_omega
  unfold timerPeriod
  rw [Bool.eq_iff_iff, Bool.and_eq_true, Bool.not_eq_true', decide_eq_true_eq, ← BitVec.testBit_toNat,
    ← BitVec.testBit_toNat, hnext, Nat.testBit_eq_decide_div_mod_eq, Nat.testBit_eq_decide_div_mod_eq, decide_eq_true_eq,
    decide_eq_false_iff_not]
  rcases selBit_cases tac with h | h | h | h <;> rw [h] <;> norm_num <;> omega

theorem timerPeriod_dvd (tac : BitVec 3) : timerPeriod tac ∣ 65536 := by
  unfold timerPeriod
  rcases selBit_cases tac with h | h | h | h <;> rw [h] <;> norm_num

/-- The tick of an increment: `TIMA` counts, or reloads at the overflow (R352). -/
theorem timer_tick_counts {t : Timer} (he : t.tac.getLsbD 2 = true)
    (hp : (t.divider.toNat + 1) % timerPeriod t.tac = 0) :
    t.tick = if t.tima = 0xFF#8 then ({ t with divider := t.divider + 1, tima := t.tma }, true)
      else ({ t with divider := t.divider + 1, tima := t.tima + 1 }, false) := by
  unfold Timer.tick
  dsimp only
  rw [Bool.and_assoc, selBit_falls, he, Bool.true_and, if_pos (decide_eq_true hp)]

/-- Any other tick counts in the divider alone. -/
theorem timer_tick_waits {t : Timer} (h : t.tac.getLsbD 2 = false ∨ (t.divider.toNat + 1) % timerPeriod t.tac ≠ 0) :
    t.tick = ({ t with divider := t.divider + 1 }, false) := by
  unfold Timer.tick
  dsimp only
  rw [Bool.and_assoc, selBit_falls, if_neg]
  rw [Bool.and_eq_true, decide_eq_true_eq, ← Bool.not_eq_false]
  tauto

theorem timer_tick_frame (t : Timer) :
    t.tick.1.divider = t.divider + 1 ∧ t.tick.1.tma = t.tma ∧ t.tick.1.tac = t.tac := by
  unfold Timer.tick
  dsimp only
  split_ifs <;> exact ⟨rfl, rfl, rfl⟩

/-- The multiples of `p` that a counter passes in `n` counts from `d`. -/
def multiplesPassed (p d n : Nat) : Nat := (d + n) / p - d / p

theorem multiplesPassed_succ (p d n : Nat) :
    multiplesPassed p d (n + 1) = multiplesPassed p d n + if (d + n + 1) % p = 0 then 1 else 0 := by
  have hle : d / p ≤ (d + n) / p := Nat.div_le_div_right (Nat.le_add_right d n)
  unfold multiplesPassed
  rw [← Nat.add_assoc, Nat.succ_div]
  simp only [Nat.dvd_iff_mod_eq_zero]
  split_ifs <;> omega

/-- The timer `n` T-cycles later. -/
def Timer.ticks (n : Nat) (t : Timer) : Timer := (fun x : Timer => x.tick.1)^[n] t

theorem timer_ticks_succ (n : Nat) (t : Timer) : t.ticks (n + 1) = (t.ticks n).tick.1 :=
  Function.iterate_succ_apply' _ n t

theorem timer_ticks_frame (n : Nat) (t : Timer) :
    (t.ticks n).divider = t.divider + BitVec.ofNat 16 n ∧ (t.ticks n).tma = t.tma ∧ (t.ticks n).tac = t.tac := by
  induction n with
  | zero => exact ⟨(BitVec.add_zero _).symm, rfl, rfl⟩
  | succ n ih =>
    obtain ⟨hdiv, htma, htac⟩ := ih
    obtain ⟨hdiv', htma', htac'⟩ := timer_tick_frame (t.ticks n)
    rw [timer_ticks_succ, hdiv', htma', htac', hdiv, BitVec.ofNat_add, BitVec.add_assoc]
    exact ⟨rfl, htma, htac⟩

/-- The divider wraps at a multiple of every period. -/
theorem timer_ticks_phase (n : Nat) (t : Timer) :
    ((t.ticks n).divider.toNat + 1) % timerPeriod t.tac = (t.divider.toNat + n + 1) % timerPeriod t.tac := by
  rw [(timer_ticks_frame n t).1, BitVec.toNat_add, BitVec.toNat_ofNat, Nat.add_mod_mod]
  exact Nat.ModEq.add_right 1 ((Nat.mod_modEq _ _).of_dvd (timerPeriod_dvd t.tac))

theorem timer_ticks_disabled (n : Nat) {t : Timer} (h : t.tac.getLsbD 2 = false) : (t.ticks n).tima = t.tima := by
  induction n with
  | zero => rfl
  | succ n ih =>
    rw [timer_ticks_succ, timer_tick_waits (.inl (by rw [(timer_ticks_frame n t).2.2, h]))]
    exact ih

theorem timer_ticks_enabled (n : Nat) {t : Timer} (h : t.tac.getLsbD 2 = true)
    (hle : t.tima.toNat + multiplesPassed (timerPeriod t.tac) t.divider.toNat n ≤ 0xFF) :
    (t.ticks n).tima = t.tima + BitVec.ofNat 8 (multiplesPassed (timerPeriod t.tac) t.divider.toNat n) := by
  induction n with
  | zero =>
    unfold multiplesPassed
    rw [Nat.add_zero, Nat.sub_self]
    exact (BitVec.add_zero _).symm
  | succ n ih =>
    obtain ⟨-, -, htac⟩ := timer_ticks_frame n t
    have hphase := timer_ticks_phase n t
    rw [multiplesPassed_succ, ← hphase] at hle ⊢
    rw [← htac] at hphase
    have ih := ih (by omega)
    rw [timer_ticks_succ]
    split_ifs at hle ⊢ with hp
    · rw [timer_tick_counts (by rw [htac, h]) (by rw [htac]; exact hp), if_neg]
      · dsimp only
        rw [ih, BitVec.ofNat_add, BitVec.add_assoc]
        rfl
      · rw [ih]
        bv_omega
    · rw [timer_tick_waits (.inr (by rw [htac]; exact hp))]
      exact ih

theorem requestInt_zero (s : State) : requestInt 0x00#8 s = s := by
  unfold requestInt
  rw [BitVec.or_zero]

/-- Settles O23: the selected bit falls at the multiples of the period, of which the wrap of the divider is one. -/
theorem timaCountsThePeriodsOfTheDivider : Obligations.TimaCountsThePeriodsOfTheDivider := by
  have hperiod : ∀ tac : BitVec 3, (match tac.toNat % 4 with
      | 0 => 1024
      | 1 => 16
      | 2 => 64
      | _ => 256) = timerPeriod tac := by decide
  refine ⟨fun t n => ?_, fun s => ?_⟩
  · intro period passed u
    have hpassed : passed = multiplesPassed (timerPeriod t.tac) t.divider.toNat n := by rw [← hperiod]; rfl
    obtain ⟨hdiv, htma, htac⟩ := timer_ticks_frame n t
    rw [hpassed]
    exact ⟨hdiv, htma, htac, timer_ticks_enabled n, timer_ticks_disabled n⟩
  · intro period u
    have hp : period = timerPeriod s.timer.tac := hperiod _
    rw [hp]
    refine ⟨fun he hm hff => ?_, fun he hm hff => ?_, fun h => ?_⟩
    · change timerTick s = _
      rw [timerTick, timer_tick_counts he hm, if_pos hff]
      rfl
    · change timerTick s = _
      rw [timerTick, timer_tick_counts he hm, if_neg hff]
      exact requestInt_zero _
    · change timerTick s = _
      rw [timerTick, timer_tick_waits h]
      exact requestInt_zero _

/-! ## The DMA unit -/

/-- Settles O24: the copy is one bus read and one write of OAM. -/
theorem dmaTickCopiesOneByte : Obligations.DmaTickCopiesOneByte := by
  intro s a
  have haddr : s.dma.address = a := rfl
  refine ⟨fun h => ?_, fun v u h hr => ?_, fun h hc => ?_, fun _ hsrc hoff => ?_⟩
  · rw [dmaTick, if_neg (by rw [h]; decide)]
  · have hdma : u.dma = s.dma := by rw [hr.frame]
    have hoam : u.oam = s.oam := by rw [hr.frame]
    have hlast : decide (s.dma.offset.toNat + 1 ≠ 160) = decide (s.dma.offset.toNat ≠ 159) := by
      rw [decide_eq_decide]
      omega
    refine ⟨_, by rw [dmaTick, if_pos h, haddr, busRead_iff.2 hr, Res.bind_ok], ?_, ?_, fun i hi => ?_⟩
    · dsimp only
      rw [hdma, hlast]
    · dsimp only
      rw [hdma, Memory.read_write_same]
    · dsimp only
      rw [hdma, hoam, Memory.read_write_other _ _ hi]
  · rw [dmaTick, if_pos h, haddr, busRead_uncovered hc, Res.bind_raised]
  · have ha : a = 0xFF03#16 := by
      rw [← haddr, Dma.address, hsrc, hoff]
      rfl
    rw [ha, not_covered_iff]
    exact .inl rfl

theorem toNat_dmaAddress (d : Dma) : d.address.toNat = d.src.toNat * 0x100 + d.offset.toNat := by
  have hsrc := d.src.isLt
  have hoff := d.offset.isLt
  unfold Dma.address pair zext16
  rw [BitVec.toNat_add, BitVec.toNat_append, ← Nat.shiftLeft_add_eq_or_of_lt (by decide), Nat.shiftLeft_eq,
    BitVec.toNat_setWidth]
  simp only [BitVec.toNat_ofNat]
  omega

/-- The DMA unit after `n` copied bytes of a transfer from page `v`. -/
def dmaAt (v : Byte) (n : Nat) : Dma := { active := decide (n ≠ 160), src := v, offset := BitVec.ofNat 8 n }

/-- One T-cycle of a transfer from WRAM, whatever the other devices do. -/
theorem tick1_copies {s : State} {v : Byte} {n : Nat} (hlo : 0xC0 ≤ v.toNat) (hhi : v.toNat ≤ 0xDF) (hn : n < 160)
    (hdma : s.dma = dmaAt v n) :
    ∃ u, tick1 s = .ok () u ∧ u.wram = s.wram ∧ u.dma = dmaAt v (n + 1) ∧
      u.oam = Memory.write s.oam n (Memory.read s.wram ((v.toNat - 0xC0) * 0x100 + n)) := by
  have hoff : s.dma.offset.toNat = n := by
    rw [hdma, dmaAt, BitVec.toNat_ofNat]
    omega
  have hactive : s.dma.active = true := by
    rw [hdma]
    exact decide_eq_true (by omega)
  have haddr : s.dma.address.toNat = v.toNat * 0x100 + n := by rw [toNat_dmaAddress, hoff, hdma, dmaAt]
  have hloc : locate false s.dma.address = .wram ((v.toNat - 0xC0) * 0x100 + n) := by
    rw [locate_wram_address ⟨by omega, by omega⟩, haddr, Target.wram.injEq]
    omega
  have hnext : ({ s.dma with offset := s.dma.offset + 1, active := decide (s.dma.offset.toNat + 1 ≠ 160) } : Dma) =
      dmaAt v (n + 1) := by
    rw [hoff, hdma, dmaAt, dmaAt, BitVec.ofNat_add]
    rfl
  rcases tick1_cases s with ⟨hidle, -⟩ | ⟨-, b, w, hr, htick⟩ | ⟨-, hc, -⟩
  · rw [hactive] at hidle
    cases hidle
  · have hb : b = Memory.read s.wram ((v.toNat - 0xC0) * 0x100 + n) := by
      rcases hr with ⟨hpeek, -⟩ | ⟨hport, -⟩
      · rw [peek_located _ hloc (by omega), readTarget, ppu_timer_frame] at hpeek
        exact (Option.some.inj hpeek).symm
      · rw [locate_above _ (by omega), hloc] at hport
        cases hport
    have hframe := hr.frame
    rw [ppu_timer_frame] at hframe htick
    rw [hnext, hoff, hb] at htick
    refine ⟨_, htick, ?_, ?_, ?_⟩
    · rw [portTicks_frame, hframe]
    · rw [portTicks_frame]
    · rw [portTicks_frame]
  · exact absurd (show Covered s.dma.address by rw [Covered, hloc]; simp) hc

/-- `n + 1` T-cycles end with one T-cycle. -/
theorem tickN_succ_last (n : Nat) (s : State) : tickN (n + 1) s = (tickN n s).bind fun _ t => tick1 t := by
  induction n generalizing s with
  | zero =>
    rw [tickN_succ, tickN_zero, Res.bind_ok]
    cases tick1 s with
    | ok a t => exact tickN_zero t
    | raised t => rfl
  | succ n ih =>
    rw [tickN_succ, tickN_succ n s]
    cases tick1 s with
    | ok a t => exact ih t
    | raised t => rfl

/-- After `n` T-cycles of a transfer from WRAM the first `n` bytes of the page are in OAM. -/
theorem tickN_copies {s : State} {v : Byte} {n : Nat} (hlo : 0xC0 ≤ v.toNat) (hhi : v.toNat ≤ 0xDF) (hn : n ≤ 160)
    (hdma : s.dma = dmaAt v 0) :
    ∃ u, tickN n s = .ok () u ∧ u.wram = s.wram ∧ u.dma = dmaAt v n ∧
      ∀ i, i < n → Memory.read u.oam i = Memory.read s.wram ((v.toNat - 0xC0) * 0x100 + i) := by
  induction n with
  | zero => exact ⟨s, tickN_zero s, rfl, hdma, fun i hi => absurd hi (Nat.not_lt_zero i)⟩
  | succ n ih =>
    obtain ⟨t, ht, hwram, htdma, hcopied⟩ := ih (by omega)
    obtain ⟨u, hu, huwram, hudma, huoam⟩ := tick1_copies hlo hhi (by omega) htdma
    refine ⟨u, by rw [tickN_succ_last, ht, Res.bind_ok, hu], huwram.trans hwram, hudma, fun i hi => ?_⟩
    rw [huoam, Memory.read_write, hwram]
    split_ifs with heq
    · rw [heq]
    · exact hcopied i (by omega)

/-- Settles O25, by induction on the T-cycles: each copies the byte at its offset. -/
theorem dmaTransferFillsOamIn160Cycles : Obligations.DmaTransferFillsOamIn160Cycles := by
  intro s t v hlo hhi hw
  have ht : t = writeIo .dma v s := (Res.ok.inj ((busWrite_io .dma v s).symm.trans hw)).2.symm
  have hdma : t.dma = dmaAt v 0 := by rw [ht]; rfl
  have hwram : t.wram = s.wram := by rw [ht]; rfl
  have hclock : t.clock = s.clock := by rw [ht]; rfl
  refine ⟨fun n hn => ?_, ?_⟩
  · obtain ⟨w, hrun, -, hwdma, -⟩ := tickN_copies hlo hhi (by omega) hdma (n := n)
    refine ⟨w, hrun, by rw [hwdma]; exact decide_eq_true (by omega), ?_⟩
    rw [hwdma, dmaAt, BitVec.toNat_ofNat]
    omega
  · obtain ⟨u, hrun, huwram, hudma, hcopied⟩ := tickN_copies hlo hhi le_rfl hdma
    rw [hwram] at huwram hcopied
    exact ⟨u, hrun, by rw [(tickN_ok hrun).1, hclock], by rw [hudma]; rfl, huwram, hcopied⟩

end Sys2Proof.Machine
end
